-- ==== Sys2Proof/Word.lean ====
section
/-! DEFINITION. The two word types of the SM83 core (spec 00_scope R10, R12): an 8-bit byte and a 16-bit word, both
unsigned bit vectors whose arithmetic wraps. -/

namespace Sys2Proof

/-- `byte`: 8 bits (R12). -/
abbrev Byte := BitVec 8

/-- `word`: 16 bits, the width of an address, PC, SP and a register pair (R10, R12). -/
abbrev Word := BitVec 16

end Sys2Proof
end

