-- ==== Sys2Proof/Machine/Bits.lean ====
section
/-! DEFINITION. Bit-field, sign-extension and byte-order helpers of spec 00_scope R12: the halves of a word, `hi8 ++ lo8`,
`sext_16` and `zext_16`. -/

namespace Sys2Proof.Machine

/-- `w[15:8]` (R12). -/
def highByte (w : Word) : Byte := w.extractLsb' 8 8

/-- `w[7:0]` (R12). -/
def lowByte (w : Word) : Byte := w.extractLsb' 0 8

/-- `hi ++ lo`: the word hi*256 + lo, high part first (R12). -/
def joinBytes (hi lo : Byte) : Word := hi ++ lo

/-- `sext_16(e8)`: two's complement, bit 7 copied into bits 15..8 (R12). -/
def signExtend16 (e : Byte) : Word := e.signExtend 16

/-- `zext_16(v8)` (R12). -/
def zeroExtend16 (v : Byte) : Word := v.setWidth 16

/-- The address `0xFF00 + zext_16(v)` of the LDH and LD (C) forms (30_encoding R98; 40_loads R136 to R139). -/
def ioPageAddress (v : Byte) : Word := 0xFF00#16 + zeroExtend16 v

end Sys2Proof.Machine
end

