-- ==== Sys2Proof/Machine/Memory.lean ====
section
/-! DEFINITION. Byte storage as plain data: a list of (index, byte) cells in ONE canonical form, indexes strictly rising and
no cell equal to what an unlisted index reads as. It holds the MMU's arrays (10_state R35) and the bytes of an image. -/

namespace Sys2Proof.Machine

/-- A storage array, or an image: its cells by index. -/
abbrev Memory := List Host.Cell

/-- What an index that no cell lists reads as. The spec gives RAM no reset contents (10_state R39, `ram_init`): every contents is
some list, so this fixes only how contents are written down, and what State.reset holds. DESIGN CHOICE, unsafe for a claim about
State.reset's RAM; log entry 1. -/
def Memory.unlisted : Byte := 0x00#8

/-- The byte at index `i`. -/
def Memory.read : Memory → Nat → Byte
  | [], _ => Memory.unlisted
  | (j, v) :: m, i => if j = i then v else Memory.read m i

/-- The storage without any cell at index `i`. -/
def Memory.clear : Memory → Nat → Memory
  | [], _ => []
  | (j, v) :: m, i => if j = i then Memory.clear m i else (j, v) :: Memory.clear m i

/-- The storage with a cell put in before the first larger index. -/
def Memory.place : Memory → Nat → Byte → Memory
  | [], i, v => [(i, v)]
  | (j, w) :: m, i, v => if i < j then (i, v) :: (j, w) :: m else (j, w) :: Memory.place m i v

/-- Write `v` at index `i`, keeping the canonical form: writing what an unlisted index reads as removes the cell. -/
def Memory.write (m : Memory) (i : Nat) (v : Byte) : Memory :=
  if v = Memory.unlisted then Memory.clear m i else Memory.place (Memory.clear m i) i v

/-- Every cell's index is above `i`, or there is no lower bound yet; indexes strictly rise from there; no cell holds what an
unlisted index reads as. -/
def Memory.wfFrom : Option Nat → Memory → Bool
  | _, [] => true
  | low, (j, v) :: m =>
    (match low with
      | none => true
      | some i => decide (i < j)) && decide (v ≠ Memory.unlisted) && Memory.wfFrom (some j) m

/-- The canonical form. -/
def Memory.wf (m : Memory) : Bool := Memory.wfFrom none m

/-- Every cell's index is below `n`. -/
def Memory.below (n : Nat) (m : Memory) : Bool := m.all fun c => decide (c.1 < n)

end Sys2Proof.Machine
end

