-- ==== Sys2Proof/Config.lean ====
section
/-! DEFINITION. The session's parameters (spec 00_scope R11): what is fixed at construction and no step changes. They are plain data, so
that every statement holds for every setting of them. -/

namespace Sys2Proof.Machine

/-- An image the external loader supplies (R8): its length and its bytes. -/
structure Image where
  len   : Nat
  bytes : Memory
  deriving DecidableEq, Repr

/-- The kind of an I/O address (20_memory R65, R66). -/
inductive IoKind where
  /-- Backed by one live byte. -/
  | storage
  /-- Reads return the fixed value, writes do nothing. -/
  | stub (v : Byte)
  /-- Reads return 0xFF, writes do nothing. -/
  | unmapped
  /-- A boot-disable address: reads return 0xFF, a nonzero write unmaps the overlay. The default catalog has one, 0xFF50; a session may have
  another, several or none (DESIGN CHOICE, log entry 12). -/
  | bootDisable
  deriving DecidableEq, Repr

/-- What STOP does (45_misc R272). -/
inductive StopMode where
  /-- A one-byte no-op. -/
  | nop1
  /-- Consumes the second byte and does nothing else. The default (D16). -/
  | nop2
  /-- Consumes the second byte and halts. -/
  | halt
  deriving DecidableEq, Repr

/-- `map_config` (20_memory R51; D3): the last address of each region, in address order. A region starts one past the last address of
the region before it, so the regions partition the address space whatever the numbers are (DESIGN CHOICE, log entries 6 and 10). `echoEnd` is R63's `echo_end`; what
lies between it and `echoAreaLast` is UNUSABLE (R63). IE is everything after `hramLast`. -/
structure MapConfig where
  bootLast     : Nat
  rom0Last     : Nat
  romxLast     : Nat
  vramLast     : Nat
  extramLast   : Nat
  wramLast     : Nat
  echoEnd      : Nat
  echoAreaLast : Nat
  oamLast      : Nat
  unusableLast : Nat
  ioLast       : Nat
  hramLast     : Nat
  deriving DecidableEq, Repr

/-- The standard DMG map, the table of 20_memory R51. -/
def MapConfig.standard : MapConfig where
  bootLast     := 0x00FF
  rom0Last     := 0x3FFF
  romxLast     := 0x7FFF
  vramLast     := 0x9FFF
  extramLast   := 0xBFFF
  wramLast     := 0xDFFF
  echoEnd      := 0xFDFF
  echoAreaLast := 0xFDFF
  oamLast      := 0xFE9F
  unusableLast := 0xFEFF
  ioLast       := 0xFF7F
  hramLast     := 0xFFFE

/-- A cost in machine cycles (70_reset R334): `taken` is the cost, `notTaken` that of a conditional transfer whose condition is false
(the same number for every other instruction). -/
structure Cost where
  taken    : Nat
  notTaken : Nat
  deriving DecidableEq, Repr

/-- A row that replaces the standard cost of an opcode, named by its number in opcode_table.json (70_reset R334: `cycle_table` as data). Its
costs are any natural numbers: 00_scope R7 says from 1 to 6, and the spec does not say whether another table must keep to that. It
may name any opcode, NOP and the unrecognized ones too. DESIGN CHOICE, log entry 11. -/
structure CycleRow where
  opcode : Nat
  cost   : Cost
  deriving DecidableEq, Repr

/-- The session's parameters (00_scope R8, R11). -/
structure Params where
  /-- `cart`, the cartridge image. -/
  cart          : Image
  /-- `boot`, the optional boot image. -/
  boot          : Option Image
  /-- `bank_mask`, computed once at construction from cart[0x0148] (20_memory R57). -/
  bankMask      : Byte
  /-- `zero_bank_remap` (20_memory R58). -/
  zeroBankRemap : Bool
  /-- `map_config`, with `echo_end` in it (20_memory R51, R63). -/
  map           : MapConfig
  /-- `io_kind`: the addresses whose kind is not the default of 20_memory R65, with their kind; any setting is
  taken (log entry 12). -/
  ioKinds       : List (Nat × IoKind)
  /-- `video_read` (20_memory R60). -/
  videoRead     : Byte
  /-- `stop_mode` (45_misc R272). -/
  stopMode      : StopMode
  /-- `cycle_table`: the rows that replace the standard table's (70_reset R334). -/
  cycleTable    : List CycleRow
  deriving DecidableEq, Repr

end Sys2Proof.Machine
end

