-- ==== Sys2Proof/Machine/State.lean ====
section
/-! DEFINITION. The state of one session (spec 10_state; 00_scope R9): the CPU part, the MMU part and the parameters; why a step can
stop; the state right after reset. -/

namespace Sys2Proof.Machine

/-- The CPU part (10_state R20 to R32). The pairs AF, BC, DE and HL are computed from their halves (R21). -/
structure Cpu where
  a      : Byte
  /-- F: Z = F[7], N = F[6], Hf = F[5], Cy = F[4] (R23); F[3:0] is always 0 (R24). -/
  f      : Byte
  b      : Byte
  c      : Byte
  d      : Byte
  e      : Byte
  h      : Byte
  l      : Byte
  sp     : Word
  pc     : Word
  /-- The interrupts-enabled flip-flop (R30). -/
  ime    : Bool
  /-- RUNNING when false, HALTED when true (R31, R32). -/
  halted : Bool
  deriving DecidableEq, Repr

/-- The MMU part (10_state R33 to R35). The arrays are indexed from 0. -/
structure Mmu where
  /-- The mapper bank-select register (R33). -/
  bank       : Byte
  /-- The boot image overlays reads of 0x0000..0x00FF (R34). -/
  bootMapped : Bool
  wram       : Memory
  hram       : Memory
  /-- One byte per I/O address; it matters only where the kind is `storage` (R35). -/
  io         : Memory
  ie         : Byte
  deriving DecidableEq, Repr

/-- One session (00_scope R9). -/
structure State where
  cpu    : Cpu
  mmu    : Mmu
  params : Params
  deriving DecidableEq, Repr

/-- No instruction, fetch, decode, access or address raises a trap, fault or abort (60_exceptions R300; 20_memory R84), so no fault
exists and nobody raises one. Safe: nothing is stopped here that the hardware would run. -/
inductive Fault where
  deriving DecidableEq, Repr

/-- Why a step has no meaning. -/
inductive Refusal where
  /-- Raised by an arm of `exec` for an instruction that has no meaning yet (no arm raises it now). Safe: it only stops a run. -/
  | notModelled (mnemonic : String)
  /-- Raised by `step` when the core is HALTED: the precondition "core is RUNNING" fails (45_misc R271; 70_reset R335, R336; D18).
  Safe: the spec gives the call no meaning and refuses it too. -/
  | stepWhileHalted
  deriving DecidableEq, Repr

/-- The register state without a boot image (10_state R37; 70_reset R322). -/
def Cpu.postBoot : Cpu where
  a := 0x01#8
  f := 0xB0#8
  b := 0x00#8
  c := 0x13#8
  d := 0x00#8
  e := 0xD8#8
  h := 0x01#8
  l := 0x4D#8
  sp := 0xFFFE#16
  pc := 0x0100#16
  ime := false
  halted := false

/-- The register state with a boot image: all zero (10_state R38; 70_reset R323). -/
def Cpu.allZero : Cpu where
  a := 0x00#8
  f := 0x00#8
  b := 0x00#8
  c := 0x00#8
  d := 0x00#8
  e := 0x00#8
  h := 0x00#8
  l := 0x00#8
  sp := 0x0000#16
  pc := 0x0000#16
  ime := false
  halted := false

/-- The parameters of State.reset: the defaults of 00_scope R11, no boot image, and the blank 0x8000-byte cartridge of the shared
premises of 95_test_vectors (its header byte is 0x00, so `bank_mask` is 0x01). DESIGN CHOICE, log entry 3. -/
def Params.default : Params where
  cart := { len := 0x8000, bytes := [] }
  boot := none
  bankMask := 0x01#8
  zeroBankRemap := true
  map := MapConfig.standard
  ioKinds := []
  videoRead := 0xFF#8
  stopMode := .nop2
  cycleTable := []

/-- The machine right after construction with the default parameters and no boot image (10_state R37, R39; 70_reset R321, R322). RAM
lists nothing: its contents are unspecified (R39), see log entry 1. `construct` gives every other construction. -/
def State.reset : State where
  cpu := Cpu.postBoot
  mmu :=
    { bank := 0x01#8
      bootMapped := false
      wram := []
      hram := []
      io := []
      ie := Memory.unlisted }
  params := Params.default

end Sys2Proof.Machine
end

