-- ==== Sys2Proof/Machine/Map.lean ====
section
/-! DEFINITION. The MMU's address decoder and its parameters read as functions (spec 20_memory §1 to §4): the region of an address, the
kind of an I/O address, the bank mask and remap, and the place of an address in its array. -/

namespace Sys2Proof.Machine

/-- The regions of 20_memory R51. -/
inductive Region where
  | bootRom0
  | rom0
  | romx
  | vram
  | extram
  | wram
  | echo
  | oam
  | unusable
  | io
  | hram
  | ie
  deriving DecidableEq, Repr

/-- The map as rows in address order: the last address of a region, and the region (R51). What lies above `echo_end` and below OAM is
UNUSABLE (R63). -/
def regionRows (m : MapConfig) : List (Nat × Region) :=
  [ (m.bootLast, .bootRom0),
    (m.rom0Last, .rom0),
    (m.romxLast, .romx),
    (m.vramLast, .vram),
    (m.extramLast, .extram),
    (m.wramLast, .wram),
    (m.echoEnd, .echo),
    (m.echoAreaLast, .unusable),
    (m.oamLast, .oam),
    (m.unusableLast, .unusable),
    (m.ioLast, .io),
    (m.hramLast, .hram) ]

/-- The first row whose last address is not below the address; IE after the last row. -/
def regionIn : List (Nat × Region) → Nat → Region
  | [], _ => .ie
  | (last, r) :: rows, n => if n ≤ last then r else regionIn rows n

/-- The region decoder: every address falls in exactly one region (R51). -/
def regionOf (m : MapConfig) (a : Word) : Region := regionIn (regionRows m) a.toNat

/-- The offset in the cartridge of a ROMX address: `bank * 0x4000 + (a - 0x4000)`, an unbounded natural (R52, R55). -/
def romxOffset (m : MapConfig) (bank : Byte) (a : Word) : Nat := bank.toNat * 0x4000 + (a.toNat - (m.rom0Last + 1))

/-- The index in `wram` of a WRAM address (R62). -/
def wramIndex (m : MapConfig) (a : Word) : Nat := a.toNat - (m.extramLast + 1)

/-- The index in `wram` of an ECHO address (R63). -/
def echoIndex (m : MapConfig) (a : Word) : Nat := a.toNat - (m.wramLast + 1)

/-- The index in `io` of an I/O address (R65). -/
def ioIndex (m : MapConfig) (a : Word) : Nat := a.toNat - (m.unusableLast + 1)

/-- The index in `hram` of a HRAM address (R67). -/
def hramIndex (m : MapConfig) (a : Word) : Nat := a.toNat - (m.ioLast + 1)

/-- The kind given to address `a` by a list of exceptions, or the default catalog's: 0xFF50 is BootDisable, every other address Storage
(R65, D11). The list may give any address BootDisable, and 0xFF50 any kind, where R65 keeps BootDisable for the one address of R66 and 00_scope
R11 leaves `io_kind` free. DESIGN CHOICE, log entry 12. -/
def ioKindIn : List (Nat × IoKind) → Nat → IoKind
  | [], a => if a = 0xFF50 then .bootDisable else .storage
  | (b, k) :: rest, a => if b = a then k else ioKindIn rest a

/-- `io_kind(a)` (R65). -/
def ioKindOf (p : Params) (a : Word) : IoKind := ioKindIn p.ioKinds a.toNat

/-- A byte of an image, 0xFF at or past its end (R55, D7; 60_exceptions R300). For the boot image, and for bank 0 of the cartridge, the spec
needs no such case: DESIGN CHOICE, log entries 7 and 10. -/
def imageByte (i : Image) (off : Nat) : Byte := if off < i.len then Memory.read i.bytes off else 0xFF#8

/-- What 0x0000..0x00FF reads as while the overlay is mapped: `boot[a]` (R54). Without a boot image the overlay is never mapped (R34);
in such a state, which no construction reaches, the cartridge is read (log entry 7). On a map whose first region goes beyond 0x00FF, what
lies past the 256 bytes of the image reads 0xFF (log entry 10). -/
def overlayByte (p : Params) (a : Word) : Byte :=
  match p.boot with
  | some b => imageByte b a.toNat
  | none => imageByte p.cart a.toNat

/-- The bank mask of a header code: `(2 << code) - 1` for codes 0 to 6, else 0xFF (R57, D5). -/
def bankMaskOf (code : Byte) : Byte :=
  if code.toNat ≤ 6 then BitVec.ofNat 8 (2 <<< code.toNat - 1) else 0xFF#8

/-- `remap(x)`: a selected bank 0 becomes 1 unless `zero_bank_remap` is false (R58). -/
def remapBank (p : Params) (x : Byte) : Byte := if p.zeroBankRemap ∧ x = 0x00#8 then 0x01#8 else x

/-- The value a bank-select write of `v` leaves in `bank` (R56). -/
def selectBank (p : Params) (v : Byte) : Byte := remapBank p (v &&& p.bankMask)

end Sys2Proof.Machine
end

