-- ==== Sys2Proof/Machine/Ops.lean ====
section
/-! DEFINITION. The named operations over memory and the registers that every meaning uses: `read_byte`, `write_byte`, `read_word`,
`write_word` (spec 20_memory R52, R53, R70, R71), PC and SP, push16 and pop16 (40_loads R143, R144). No operation takes an exception or
returns from one: this hardware has neither (60_exceptions R300, R303, R304). -/

namespace Sys2Proof.Machine

/-- How a step ends. -/
abbrev StepOutcome := Host.Outcome State Fault Refusal

/-- `read_byte(a)` (R52): a byte for every address; no state changes. The overlay covers the region BOOT/ROM0, as R51's table has it, where R52's
pseudocode tests a <= 0x00FF: one set of addresses on the standard map. On a map whose first region does not end at 0x00FF the region
decides, and past the end of the boot image it reads 0xFF. DESIGN CHOICE, log entry 10. -/
def readByte (s : State) (a : Word) : Byte :=
  match regionOf s.params.map a with
  | .bootRom0 => if s.mmu.bootMapped then overlayByte s.params a else imageByte s.params.cart a.toNat
  | .rom0 => imageByte s.params.cart a.toNat
  | .romx => imageByte s.params.cart (romxOffset s.params.map s.mmu.bank a)
  | .vram => s.params.videoRead
  | .oam => s.params.videoRead
  | .extram => 0xFF#8
  | .unusable => 0xFF#8
  | .wram => Memory.read s.mmu.wram (wramIndex s.params.map a)
  | .echo => Memory.read s.mmu.wram (echoIndex s.params.map a)
  | .io =>
    match ioKindOf s.params a with
    | .storage => Memory.read s.mmu.io (ioIndex s.params.map a)
    | .stub v => v
    | .unmapped => 0xFF#8
    | .bootDisable => 0xFF#8
  | .hram => Memory.read s.mmu.hram (hramIndex s.params.map a)
  | .ie => s.mmu.ie

/-- The MMU part after `write_byte(a, v)` (R53): at most one of `bank`, `boot_mapped` or one storage byte changes. -/
def mmuWrite (p : Params) (m : Mmu) (a : Word) (v : Byte) : Mmu :=
  match regionOf p.map a with
  | .bootRom0 => { m with bank := selectBank p v }
  | .rom0 => { m with bank := selectBank p v }
  | .romx => m
  | .vram => m
  | .oam => m
  | .extram => m
  | .unusable => m
  | .wram => { m with wram := Memory.write m.wram (wramIndex p.map a) v }
  | .echo => { m with wram := Memory.write m.wram (echoIndex p.map a) v }
  | .io =>
    match ioKindOf p a with
    | .storage => { m with io := Memory.write m.io (ioIndex p.map a) v }
    | .stub _ => m
    | .unmapped => m
    | .bootDisable => if v = 0x00#8 then m else { m with bootMapped := false }
  | .hram => { m with hram := Memory.write m.hram (hramIndex p.map a) v }
  | .ie => { m with ie := v }

/-- `write_byte(a, v)` (R53). -/
def writeByte (s : State) (a : Word) (v : Byte) : State := { s with mmu := mmuWrite s.params s.mmu a v }

/-- `read_word(a)`: low byte at a, high byte at a + 1, modulo 2^16 (R70). -/
def readWord (s : State) (a : Word) : Word := joinBytes (readByte s (a + 1#16)) (readByte s a)

/-- `write_word(a, v)`: the low byte to a, then the high byte to a + 1, modulo 2^16 (R71). -/
def writeWord (s : State) (a : Word) (v : Word) : State :=
  writeByte (writeByte s a (lowByte v)) (a + 1#16) (highByte v)

/-- PC past `n` fetched bytes, modulo 2^16 (10_state R27, R28). -/
def advance (n : Nat) (s : State) : State := { s with cpu := { s.cpu with pc := s.cpu.pc + BitVec.ofNat 16 n } }

/-- `PC <- t` (00_scope R13). -/
def jumpTo (t : Word) (s : State) : State := { s with cpu := { s.cpu with pc := t } }

/-- `SP <- v`. -/
def setSp (v : Word) (s : State) : State := { s with cpu := { s.cpu with sp := v } }

/-- `ime <- v` (10_state R30). -/
def setIme (v : Bool) (s : State) : State := { s with cpu := { s.cpu with ime := v } }

/-- `halted <- 1` (10_state R31). -/
def enterHalt (s : State) : State := { s with cpu := { s.cpu with halted := true } }

/-- `push16(v)`: SP - 2, then `write_word(SP, v)` (40_loads R143). -/
def push16 (v : Word) (s : State) : State := writeWord (setSp (s.cpu.sp - 2#16) s) (s.cpu.sp - 2#16) v

/-- The word `pop16()` returns: `read_word(SP)` (40_loads R144). -/
def popValue (s : State) : Word := readWord s s.cpu.sp

/-- What `pop16()` does to SP: SP + 2 (40_loads R144). -/
def dropWord (s : State) : State := setSp (s.cpu.sp + 2#16) s

end Sys2Proof.Machine
end

