-- ==== Sys2Proof/Syntax.lean ====
section
/-! DEFINITION. The instructions (spec 30_encoding): one constructor per row of opcode_table.json, with the row's immediate bytes as its
operands; the operand fields of R92 to R96; and, for each family of R99 to R104, the constructor that given field values name. -/

namespace Sys2Proof

/-- An 8-bit register operand: the field `r` of R92 but for value 6. -/
inductive Reg8 where
  | b
  | c
  | d
  | e
  | h
  | l
  | a
  deriving DecidableEq, Repr

/-- The 8-bit operand field `r` with all its values: a register, or the byte at HL (R92, value 6). -/
inductive Loc where
  | reg (r : Reg8)
  | indHl
  deriving DecidableEq, Repr

/-- The pair field of the arithmetic and load group (R93). -/
inductive Reg16 where
  | bc
  | de
  | hl
  | sp
  deriving DecidableEq, Repr

/-- The pair field of the stack group (R94). -/
inductive StackPair where
  | bc
  | de
  | hl
  | af
  deriving DecidableEq, Repr

/-- The condition field (R95). -/
inductive Cond where
  | nz
  | z
  | nc
  | c
  deriving DecidableEq, Repr

/-- The ALU operation field (R96). -/
inductive AluOp where
  | add
  | adc
  | sub
  | sbc
  | and
  | xor
  | or
  | cp
  deriving DecidableEq, Repr

/-- The rotate and shift operation field of the CB table (R104). -/
inductive ShiftOp where
  | rlc
  | rrc
  | rl
  | rr
  | sla
  | sra
  | swap
  | srl
  deriving DecidableEq, Repr

/-- The instructions. `n` is an immediate value, `a` and `a8` an address, `e` a byte read as two's complement (00_scope R14); the byte
after STOP is `ignored` (45_misc R272). The comment gives the source mnemonic, the opcode and the
rule. The order is the table's, the bare prefix and the unrecognized opcodes last. -/
inductive Instr where
  | nop -- NOP; 0x00; R270
  | ldBcN16 (n : Word) -- LD BC,n16; 0x01; R140
  | ldIndBcA -- LD (BC),A; 0x02; R128
  | incBc -- INC BC; 0x03; R202
  | incB -- INC B; 0x04; R174
  | decB -- DEC B; 0x05; R176
  | ldBN8 (n : Byte) -- LD B,n8; 0x06; R122
  | rlca -- RLCA; 0x07; R182
  | ldIndA16Sp (a : Word) -- LD (a16),SP; 0x08; R141
  | addHlBc -- ADD HL,BC; 0x09; R201
  | ldAIndBc -- LD A,(BC); 0x0A; R126
  | decBc -- DEC BC; 0x0B; R203
  | incC -- INC C; 0x0C; R174
  | decC -- DEC C; 0x0D; R176
  | ldCN8 (n : Byte) -- LD C,n8; 0x0E; R122
  | rrca -- RRCA; 0x0F; R183
  | stop (ignored : Byte) -- STOP; 0x10; R272
  | ldDeN16 (n : Word) -- LD DE,n16; 0x11; R140
  | ldIndDeA -- LD (DE),A; 0x12; R129
  | incDe -- INC DE; 0x13; R202
  | incD -- INC D; 0x14; R174
  | decD -- DEC D; 0x15; R176
  | ldDN8 (n : Byte) -- LD D,n8; 0x16; R122
  | rla -- RLA; 0x17; R184
  | jrE8 (e : Byte) -- JR e8; 0x18; R224
  | addHlDe -- ADD HL,DE; 0x19; R201
  | ldAIndDe -- LD A,(DE); 0x1A; R127
  | decDe -- DEC DE; 0x1B; R203
  | incE -- INC E; 0x1C; R174
  | decE -- DEC E; 0x1D; R176
  | ldEN8 (n : Byte) -- LD E,n8; 0x1E; R122
  | rra -- RRA; 0x1F; R185
  | jrNzE8 (e : Byte) -- JR NZ,e8; 0x20; R225
  | ldHlN16 (n : Word) -- LD HL,n16; 0x21; R140
  | ldIndHlIncA -- LD (HL+),A; 0x22; R132
  | incHl -- INC HL; 0x23; R202
  | incH -- INC H; 0x24; R174
  | decH -- DEC H; 0x25; R176
  | ldHN8 (n : Byte) -- LD H,n8; 0x26; R122
  | daa -- DAA; 0x27; R178
  | jrZE8 (e : Byte) -- JR Z,e8; 0x28; R225
  | addHlHl -- ADD HL,HL; 0x29; R201
  | ldAIndHlInc -- LD A,(HL+); 0x2A; R130
  | decHl -- DEC HL; 0x2B; R203
  | incL -- INC L; 0x2C; R174
  | decL -- DEC L; 0x2D; R176
  | ldLN8 (n : Byte) -- LD L,n8; 0x2E; R122
  | cpl -- CPL; 0x2F; R179
  | jrNcE8 (e : Byte) -- JR NC,e8; 0x30; R225
  | ldSpN16 (n : Word) -- LD SP,n16; 0x31; R140
  | ldIndHlDecA -- LD (HL-),A; 0x32; R133
  | incSp -- INC SP; 0x33; R202
  | incIndHl -- INC (HL); 0x34; R175
  | decIndHl -- DEC (HL); 0x35; R177
  | ldIndHlN8 (n : Byte) -- LD (HL),n8; 0x36; R125
  | scf -- SCF; 0x37; R180
  | jrCE8 (e : Byte) -- JR C,e8; 0x38; R225
  | addHlSp -- ADD HL,SP; 0x39; R201
  | ldAIndHlDec -- LD A,(HL-); 0x3A; R131
  | decSp -- DEC SP; 0x3B; R203
  | incA -- INC A; 0x3C; R174
  | decA -- DEC A; 0x3D; R176
  | ldAN8 (n : Byte) -- LD A,n8; 0x3E; R122
  | ccf -- CCF; 0x3F; R181
  | ldBB -- LD B,B; 0x40; R121
  | ldBC -- LD B,C; 0x41; R121
  | ldBD -- LD B,D; 0x42; R121
  | ldBE -- LD B,E; 0x43; R121
  | ldBH -- LD B,H; 0x44; R121
  | ldBL -- LD B,L; 0x45; R121
  | ldBIndHl -- LD B,(HL); 0x46; R123
  | ldBA -- LD B,A; 0x47; R121
  | ldCB -- LD C,B; 0x48; R121
  | ldCC -- LD C,C; 0x49; R121
  | ldCD -- LD C,D; 0x4A; R121
  | ldCE -- LD C,E; 0x4B; R121
  | ldCH -- LD C,H; 0x4C; R121
  | ldCL -- LD C,L; 0x4D; R121
  | ldCIndHl -- LD C,(HL); 0x4E; R123
  | ldCA -- LD C,A; 0x4F; R121
  | ldDB -- LD D,B; 0x50; R121
  | ldDC -- LD D,C; 0x51; R121
  | ldDD -- LD D,D; 0x52; R121
  | ldDE -- LD D,E; 0x53; R121
  | ldDH -- LD D,H; 0x54; R121
  | ldDL -- LD D,L; 0x55; R121
  | ldDIndHl -- LD D,(HL); 0x56; R123
  | ldDA -- LD D,A; 0x57; R121
  | ldEB -- LD E,B; 0x58; R121
  | ldEC -- LD E,C; 0x59; R121
  | ldED -- LD E,D; 0x5A; R121
  | ldEE -- LD E,E; 0x5B; R121
  | ldEH -- LD E,H; 0x5C; R121
  | ldEL -- LD E,L; 0x5D; R121
  | ldEIndHl -- LD E,(HL); 0x5E; R123
  | ldEA -- LD E,A; 0x5F; R121
  | ldHB -- LD H,B; 0x60; R121
  | ldHC -- LD H,C; 0x61; R121
  | ldHD -- LD H,D; 0x62; R121
  | ldHE -- LD H,E; 0x63; R121
  | ldHH -- LD H,H; 0x64; R121
  | ldHL -- LD H,L; 0x65; R121
  | ldHIndHl -- LD H,(HL); 0x66; R123
  | ldHA -- LD H,A; 0x67; R121
  | ldLB -- LD L,B; 0x68; R121
  | ldLC -- LD L,C; 0x69; R121
  | ldLD -- LD L,D; 0x6A; R121
  | ldLE -- LD L,E; 0x6B; R121
  | ldLH -- LD L,H; 0x6C; R121
  | ldLL -- LD L,L; 0x6D; R121
  | ldLIndHl -- LD L,(HL); 0x6E; R123
  | ldLA -- LD L,A; 0x6F; R121
  | ldIndHlB -- LD (HL),B; 0x70; R124
  | ldIndHlC -- LD (HL),C; 0x71; R124
  | ldIndHlD -- LD (HL),D; 0x72; R124
  | ldIndHlE -- LD (HL),E; 0x73; R124
  | ldIndHlH -- LD (HL),H; 0x74; R124
  | ldIndHlL -- LD (HL),L; 0x75; R124
  | halt -- HALT; 0x76; R271
  | ldIndHlA -- LD (HL),A; 0x77; R124
  | ldAB -- LD A,B; 0x78; R121
  | ldAC -- LD A,C; 0x79; R121
  | ldAD -- LD A,D; 0x7A; R121
  | ldAE -- LD A,E; 0x7B; R121
  | ldAH -- LD A,H; 0x7C; R121
  | ldAL -- LD A,L; 0x7D; R121
  | ldAIndHl -- LD A,(HL); 0x7E; R123
  | ldAA -- LD A,A; 0x7F; R121
  | addAB -- ADD A,B; 0x80; R166
  | addAC -- ADD A,C; 0x81; R166
  | addAD -- ADD A,D; 0x82; R166
  | addAE -- ADD A,E; 0x83; R166
  | addAH -- ADD A,H; 0x84; R166
  | addAL -- ADD A,L; 0x85; R166
  | addAIndHl -- ADD A,(HL); 0x86; R166
  | addAA -- ADD A,A; 0x87; R166
  | adcAB -- ADC A,B; 0x88; R167
  | adcAC -- ADC A,C; 0x89; R167
  | adcAD -- ADC A,D; 0x8A; R167
  | adcAE -- ADC A,E; 0x8B; R167
  | adcAH -- ADC A,H; 0x8C; R167
  | adcAL -- ADC A,L; 0x8D; R167
  | adcAIndHl -- ADC A,(HL); 0x8E; R167
  | adcAA -- ADC A,A; 0x8F; R167
  | subB -- SUB B; 0x90; R168
  | subC -- SUB C; 0x91; R168
  | subD -- SUB D; 0x92; R168
  | subE -- SUB E; 0x93; R168
  | subH -- SUB H; 0x94; R168
  | subL -- SUB L; 0x95; R168
  | subIndHl -- SUB (HL); 0x96; R168
  | subA -- SUB A; 0x97; R168
  | sbcAB -- SBC A,B; 0x98; R169
  | sbcAC -- SBC A,C; 0x99; R169
  | sbcAD -- SBC A,D; 0x9A; R169
  | sbcAE -- SBC A,E; 0x9B; R169
  | sbcAH -- SBC A,H; 0x9C; R169
  | sbcAL -- SBC A,L; 0x9D; R169
  | sbcAIndHl -- SBC A,(HL); 0x9E; R169
  | sbcAA -- SBC A,A; 0x9F; R169
  | andB -- AND B; 0xA0; R170
  | andC -- AND C; 0xA1; R170
  | andD -- AND D; 0xA2; R170
  | andE -- AND E; 0xA3; R170
  | andH -- AND H; 0xA4; R170
  | andL -- AND L; 0xA5; R170
  | andIndHl -- AND (HL); 0xA6; R170
  | andA -- AND A; 0xA7; R170
  | xorB -- XOR B; 0xA8; R171
  | xorC -- XOR C; 0xA9; R171
  | xorD -- XOR D; 0xAA; R171
  | xorE -- XOR E; 0xAB; R171
  | xorH -- XOR H; 0xAC; R171
  | xorL -- XOR L; 0xAD; R171
  | xorIndHl -- XOR (HL); 0xAE; R171
  | xorA -- XOR A; 0xAF; R171
  | orB -- OR B; 0xB0; R172
  | orC -- OR C; 0xB1; R172
  | orD -- OR D; 0xB2; R172
  | orE -- OR E; 0xB3; R172
  | orH -- OR H; 0xB4; R172
  | orL -- OR L; 0xB5; R172
  | orIndHl -- OR (HL); 0xB6; R172
  | orA -- OR A; 0xB7; R172
  | cpB -- CP B; 0xB8; R173
  | cpC -- CP C; 0xB9; R173
  | cpD -- CP D; 0xBA; R173
  | cpE -- CP E; 0xBB; R173
  | cpH -- CP H; 0xBC; R173
  | cpL -- CP L; 0xBD; R173
  | cpIndHl -- CP (HL); 0xBE; R173
  | cpA -- CP A; 0xBF; R173
  | retNz -- RET NZ; 0xC0; R229
  | popBc -- POP BC; 0xC1; R146
  | jpNzA16 (a : Word) -- JP NZ,a16; 0xC2; R222
  | jpA16 (a : Word) -- JP a16; 0xC3; R221
  | callNzA16 (a : Word) -- CALL NZ,a16; 0xC4; R227
  | pushBc -- PUSH BC; 0xC5; R145
  | addAN8 (n : Byte) -- ADD A,n8; 0xC6; R166
  | rst00 -- RST 0x00; 0xC7; R231
  | retZ -- RET Z; 0xC8; R229
  | ret -- RET; 0xC9; R228
  | jpZA16 (a : Word) -- JP Z,a16; 0xCA; R222
  | callZA16 (a : Word) -- CALL Z,a16; 0xCC; R227
  | callA16 (a : Word) -- CALL a16; 0xCD; R226
  | adcAN8 (n : Byte) -- ADC A,n8; 0xCE; R167
  | rst08 -- RST 0x08; 0xCF; R231
  | retNc -- RET NC; 0xD0; R229
  | popDe -- POP DE; 0xD1; R146
  | jpNcA16 (a : Word) -- JP NC,a16; 0xD2; R222
  | callNcA16 (a : Word) -- CALL NC,a16; 0xD4; R227
  | pushDe -- PUSH DE; 0xD5; R145
  | subN8 (n : Byte) -- SUB n8; 0xD6; R168
  | rst10 -- RST 0x10; 0xD7; R231
  | retC -- RET C; 0xD8; R229
  | reti -- RETI; 0xD9; R230
  | jpCA16 (a : Word) -- JP C,a16; 0xDA; R222
  | callCA16 (a : Word) -- CALL C,a16; 0xDC; R227
  | sbcAN8 (n : Byte) -- SBC A,n8; 0xDE; R169
  | rst18 -- RST 0x18; 0xDF; R231
  | ldhIndA8A (a8 : Byte) -- LDH (a8),A; 0xE0; R137
  | popHl -- POP HL; 0xE1; R146
  | ldIndCA -- LD (C),A; 0xE2; R139
  | pushHl -- PUSH HL; 0xE5; R145
  | andN8 (n : Byte) -- AND n8; 0xE6; R170
  | rst20 -- RST 0x20; 0xE7; R231
  | addSpE8 (e : Byte) -- ADD SP,e8; 0xE8; R205
  | jpHl -- JP HL; 0xE9; R223
  | ldIndA16A (a : Word) -- LD (a16),A; 0xEA; R135
  | xorN8 (n : Byte) -- XOR n8; 0xEE; R171
  | rst28 -- RST 0x28; 0xEF; R231
  | ldhAIndA8 (a8 : Byte) -- LDH A,(a8); 0xF0; R136
  | popAf -- POP AF; 0xF1; R147
  | ldAIndC -- LD A,(C); 0xF2; R138
  | di -- DI; 0xF3; R273
  | pushAf -- PUSH AF; 0xF5; R145
  | orN8 (n : Byte) -- OR n8; 0xF6; R172
  | rst30 -- RST 0x30; 0xF7; R231
  | ldHlSpE8 (e : Byte) -- LD HL,SP+e8; 0xF8; R206
  | ldSpHl -- LD SP,HL; 0xF9; R142
  | ldAIndA16 (a : Word) -- LD A,(a16); 0xFA; R134
  | ei -- EI; 0xFB; R274
  | cpN8 (n : Byte) -- CP n8; 0xFE; R173
  | rst38 -- RST 0x38; 0xFF; R231
  | rlcB -- RLC B; CB 00; R251
  | rlcC -- RLC C; CB 01; R251
  | rlcD -- RLC D; CB 02; R251
  | rlcE -- RLC E; CB 03; R251
  | rlcH -- RLC H; CB 04; R251
  | rlcL -- RLC L; CB 05; R251
  | rlcIndHl -- RLC (HL); CB 06; R251
  | rlcA -- RLC A; CB 07; R251
  | rrcB -- RRC B; CB 08; R252
  | rrcC -- RRC C; CB 09; R252
  | rrcD -- RRC D; CB 0A; R252
  | rrcE -- RRC E; CB 0B; R252
  | rrcH -- RRC H; CB 0C; R252
  | rrcL -- RRC L; CB 0D; R252
  | rrcIndHl -- RRC (HL); CB 0E; R252
  | rrcA -- RRC A; CB 0F; R252
  | rlB -- RL B; CB 10; R253
  | rlC -- RL C; CB 11; R253
  | rlD -- RL D; CB 12; R253
  | rlE -- RL E; CB 13; R253
  | rlH -- RL H; CB 14; R253
  | rlL -- RL L; CB 15; R253
  | rlIndHl -- RL (HL); CB 16; R253
  | rlA -- RL A; CB 17; R253
  | rrB -- RR B; CB 18; R254
  | rrC -- RR C; CB 19; R254
  | rrD -- RR D; CB 1A; R254
  | rrE -- RR E; CB 1B; R254
  | rrH -- RR H; CB 1C; R254
  | rrL -- RR L; CB 1D; R254
  | rrIndHl -- RR (HL); CB 1E; R254
  | rrA -- RR A; CB 1F; R254
  | slaB -- SLA B; CB 20; R255
  | slaC -- SLA C; CB 21; R255
  | slaD -- SLA D; CB 22; R255
  | slaE -- SLA E; CB 23; R255
  | slaH -- SLA H; CB 24; R255
  | slaL -- SLA L; CB 25; R255
  | slaIndHl -- SLA (HL); CB 26; R255
  | slaA -- SLA A; CB 27; R255
  | sraB -- SRA B; CB 28; R256
  | sraC -- SRA C; CB 29; R256
  | sraD -- SRA D; CB 2A; R256
  | sraE -- SRA E; CB 2B; R256
  | sraH -- SRA H; CB 2C; R256
  | sraL -- SRA L; CB 2D; R256
  | sraIndHl -- SRA (HL); CB 2E; R256
  | sraA -- SRA A; CB 2F; R256
  | swapB -- SWAP B; CB 30; R257
  | swapC -- SWAP C; CB 31; R257
  | swapD -- SWAP D; CB 32; R257
  | swapE -- SWAP E; CB 33; R257
  | swapH -- SWAP H; CB 34; R257
  | swapL -- SWAP L; CB 35; R257
  | swapIndHl -- SWAP (HL); CB 36; R257
  | swapA -- SWAP A; CB 37; R257
  | srlB -- SRL B; CB 38; R258
  | srlC -- SRL C; CB 39; R258
  | srlD -- SRL D; CB 3A; R258
  | srlE -- SRL E; CB 3B; R258
  | srlH -- SRL H; CB 3C; R258
  | srlL -- SRL L; CB 3D; R258
  | srlIndHl -- SRL (HL); CB 3E; R258
  | srlA -- SRL A; CB 3F; R258
  | bit0B -- BIT 0,B; CB 40; R259
  | bit0C -- BIT 0,C; CB 41; R259
  | bit0D -- BIT 0,D; CB 42; R259
  | bit0E -- BIT 0,E; CB 43; R259
  | bit0H -- BIT 0,H; CB 44; R259
  | bit0L -- BIT 0,L; CB 45; R259
  | bit0IndHl -- BIT 0,(HL); CB 46; R259
  | bit0A -- BIT 0,A; CB 47; R259
  | bit1B -- BIT 1,B; CB 48; R259
  | bit1C -- BIT 1,C; CB 49; R259
  | bit1D -- BIT 1,D; CB 4A; R259
  | bit1E -- BIT 1,E; CB 4B; R259
  | bit1H -- BIT 1,H; CB 4C; R259
  | bit1L -- BIT 1,L; CB 4D; R259
  | bit1IndHl -- BIT 1,(HL); CB 4E; R259
  | bit1A -- BIT 1,A; CB 4F; R259
  | bit2B -- BIT 2,B; CB 50; R259
  | bit2C -- BIT 2,C; CB 51; R259
  | bit2D -- BIT 2,D; CB 52; R259
  | bit2E -- BIT 2,E; CB 53; R259
  | bit2H -- BIT 2,H; CB 54; R259
  | bit2L -- BIT 2,L; CB 55; R259
  | bit2IndHl -- BIT 2,(HL); CB 56; R259
  | bit2A -- BIT 2,A; CB 57; R259
  | bit3B -- BIT 3,B; CB 58; R259
  | bit3C -- BIT 3,C; CB 59; R259
  | bit3D -- BIT 3,D; CB 5A; R259
  | bit3E -- BIT 3,E; CB 5B; R259
  | bit3H -- BIT 3,H; CB 5C; R259
  | bit3L -- BIT 3,L; CB 5D; R259
  | bit3IndHl -- BIT 3,(HL); CB 5E; R259
  | bit3A -- BIT 3,A; CB 5F; R259
  | bit4B -- BIT 4,B; CB 60; R259
  | bit4C -- BIT 4,C; CB 61; R259
  | bit4D -- BIT 4,D; CB 62; R259
  | bit4E -- BIT 4,E; CB 63; R259
  | bit4H -- BIT 4,H; CB 64; R259
  | bit4L -- BIT 4,L; CB 65; R259
  | bit4IndHl -- BIT 4,(HL); CB 66; R259
  | bit4A -- BIT 4,A; CB 67; R259
  | bit5B -- BIT 5,B; CB 68; R259
  | bit5C -- BIT 5,C; CB 69; R259
  | bit5D -- BIT 5,D; CB 6A; R259
  | bit5E -- BIT 5,E; CB 6B; R259
  | bit5H -- BIT 5,H; CB 6C; R259
  | bit5L -- BIT 5,L; CB 6D; R259
  | bit5IndHl -- BIT 5,(HL); CB 6E; R259
  | bit5A -- BIT 5,A; CB 6F; R259
  | bit6B -- BIT 6,B; CB 70; R259
  | bit6C -- BIT 6,C; CB 71; R259
  | bit6D -- BIT 6,D; CB 72; R259
  | bit6E -- BIT 6,E; CB 73; R259
  | bit6H -- BIT 6,H; CB 74; R259
  | bit6L -- BIT 6,L; CB 75; R259
  | bit6IndHl -- BIT 6,(HL); CB 76; R259
  | bit6A -- BIT 6,A; CB 77; R259
  | bit7B -- BIT 7,B; CB 78; R259
  | bit7C -- BIT 7,C; CB 79; R259
  | bit7D -- BIT 7,D; CB 7A; R259
  | bit7E -- BIT 7,E; CB 7B; R259
  | bit7H -- BIT 7,H; CB 7C; R259
  | bit7L -- BIT 7,L; CB 7D; R259
  | bit7IndHl -- BIT 7,(HL); CB 7E; R259
  | bit7A -- BIT 7,A; CB 7F; R259
  | res0B -- RES 0,B; CB 80; R260
  | res0C -- RES 0,C; CB 81; R260
  | res0D -- RES 0,D; CB 82; R260
  | res0E -- RES 0,E; CB 83; R260
  | res0H -- RES 0,H; CB 84; R260
  | res0L -- RES 0,L; CB 85; R260
  | res0IndHl -- RES 0,(HL); CB 86; R260
  | res0A -- RES 0,A; CB 87; R260
  | res1B -- RES 1,B; CB 88; R260
  | res1C -- RES 1,C; CB 89; R260
  | res1D -- RES 1,D; CB 8A; R260
  | res1E -- RES 1,E; CB 8B; R260
  | res1H -- RES 1,H; CB 8C; R260
  | res1L -- RES 1,L; CB 8D; R260
  | res1IndHl -- RES 1,(HL); CB 8E; R260
  | res1A -- RES 1,A; CB 8F; R260
  | res2B -- RES 2,B; CB 90; R260
  | res2C -- RES 2,C; CB 91; R260
  | res2D -- RES 2,D; CB 92; R260
  | res2E -- RES 2,E; CB 93; R260
  | res2H -- RES 2,H; CB 94; R260
  | res2L -- RES 2,L; CB 95; R260
  | res2IndHl -- RES 2,(HL); CB 96; R260
  | res2A -- RES 2,A; CB 97; R260
  | res3B -- RES 3,B; CB 98; R260
  | res3C -- RES 3,C; CB 99; R260
  | res3D -- RES 3,D; CB 9A; R260
  | res3E -- RES 3,E; CB 9B; R260
  | res3H -- RES 3,H; CB 9C; R260
  | res3L -- RES 3,L; CB 9D; R260
  | res3IndHl -- RES 3,(HL); CB 9E; R260
  | res3A -- RES 3,A; CB 9F; R260
  | res4B -- RES 4,B; CB A0; R260
  | res4C -- RES 4,C; CB A1; R260
  | res4D -- RES 4,D; CB A2; R260
  | res4E -- RES 4,E; CB A3; R260
  | res4H -- RES 4,H; CB A4; R260
  | res4L -- RES 4,L; CB A5; R260
  | res4IndHl -- RES 4,(HL); CB A6; R260
  | res4A -- RES 4,A; CB A7; R260
  | res5B -- RES 5,B; CB A8; R260
  | res5C -- RES 5,C; CB A9; R260
  | res5D -- RES 5,D; CB AA; R260
  | res5E -- RES 5,E; CB AB; R260
  | res5H -- RES 5,H; CB AC; R260
  | res5L -- RES 5,L; CB AD; R260
  | res5IndHl -- RES 5,(HL); CB AE; R260
  | res5A -- RES 5,A; CB AF; R260
  | res6B -- RES 6,B; CB B0; R260
  | res6C -- RES 6,C; CB B1; R260
  | res6D -- RES 6,D; CB B2; R260
  | res6E -- RES 6,E; CB B3; R260
  | res6H -- RES 6,H; CB B4; R260
  | res6L -- RES 6,L; CB B5; R260
  | res6IndHl -- RES 6,(HL); CB B6; R260
  | res6A -- RES 6,A; CB B7; R260
  | res7B -- RES 7,B; CB B8; R260
  | res7C -- RES 7,C; CB B9; R260
  | res7D -- RES 7,D; CB BA; R260
  | res7E -- RES 7,E; CB BB; R260
  | res7H -- RES 7,H; CB BC; R260
  | res7L -- RES 7,L; CB BD; R260
  | res7IndHl -- RES 7,(HL); CB BE; R260
  | res7A -- RES 7,A; CB BF; R260
  | set0B -- SET 0,B; CB C0; R261
  | set0C -- SET 0,C; CB C1; R261
  | set0D -- SET 0,D; CB C2; R261
  | set0E -- SET 0,E; CB C3; R261
  | set0H -- SET 0,H; CB C4; R261
  | set0L -- SET 0,L; CB C5; R261
  | set0IndHl -- SET 0,(HL); CB C6; R261
  | set0A -- SET 0,A; CB C7; R261
  | set1B -- SET 1,B; CB C8; R261
  | set1C -- SET 1,C; CB C9; R261
  | set1D -- SET 1,D; CB CA; R261
  | set1E -- SET 1,E; CB CB; R261
  | set1H -- SET 1,H; CB CC; R261
  | set1L -- SET 1,L; CB CD; R261
  | set1IndHl -- SET 1,(HL); CB CE; R261
  | set1A -- SET 1,A; CB CF; R261
  | set2B -- SET 2,B; CB D0; R261
  | set2C -- SET 2,C; CB D1; R261
  | set2D -- SET 2,D; CB D2; R261
  | set2E -- SET 2,E; CB D3; R261
  | set2H -- SET 2,H; CB D4; R261
  | set2L -- SET 2,L; CB D5; R261
  | set2IndHl -- SET 2,(HL); CB D6; R261
  | set2A -- SET 2,A; CB D7; R261
  | set3B -- SET 3,B; CB D8; R261
  | set3C -- SET 3,C; CB D9; R261
  | set3D -- SET 3,D; CB DA; R261
  | set3E -- SET 3,E; CB DB; R261
  | set3H -- SET 3,H; CB DC; R261
  | set3L -- SET 3,L; CB DD; R261
  | set3IndHl -- SET 3,(HL); CB DE; R261
  | set3A -- SET 3,A; CB DF; R261
  | set4B -- SET 4,B; CB E0; R261
  | set4C -- SET 4,C; CB E1; R261
  | set4D -- SET 4,D; CB E2; R261
  | set4E -- SET 4,E; CB E3; R261
  | set4H -- SET 4,H; CB E4; R261
  | set4L -- SET 4,L; CB E5; R261
  | set4IndHl -- SET 4,(HL); CB E6; R261
  | set4A -- SET 4,A; CB E7; R261
  | set5B -- SET 5,B; CB E8; R261
  | set5C -- SET 5,C; CB E9; R261
  | set5D -- SET 5,D; CB EA; R261
  | set5E -- SET 5,E; CB EB; R261
  | set5H -- SET 5,H; CB EC; R261
  | set5L -- SET 5,L; CB ED; R261
  | set5IndHl -- SET 5,(HL); CB EE; R261
  | set5A -- SET 5,A; CB EF; R261
  | set6B -- SET 6,B; CB F0; R261
  | set6C -- SET 6,C; CB F1; R261
  | set6D -- SET 6,D; CB F2; R261
  | set6E -- SET 6,E; CB F3; R261
  | set6H -- SET 6,H; CB F4; R261
  | set6L -- SET 6,L; CB F5; R261
  | set6IndHl -- SET 6,(HL); CB F6; R261
  | set6A -- SET 6,A; CB F7; R261
  | set7B -- SET 7,B; CB F8; R261
  | set7C -- SET 7,C; CB F9; R261
  | set7D -- SET 7,D; CB FA; R261
  | set7E -- SET 7,E; CB FB; R261
  | set7H -- SET 7,H; CB FC; R261
  | set7L -- SET 7,L; CB FD; R261
  | set7IndHl -- SET 7,(HL); CB FE; R261
  | set7A -- SET 7,A; CB FF; R261
  | prefixCb -- the bare prefix byte: the instruction is the CB row of the next byte; 0xCB; R104
  | unrecognizedD3 -- unrecognized; 0xD3; R275
  | unrecognizedDB -- unrecognized; 0xDB; R275
  | unrecognizedDD -- unrecognized; 0xDD; R275
  | unrecognizedE3 -- unrecognized; 0xE3; R275
  | unrecognizedE4 -- unrecognized; 0xE4; R275
  | unrecognizedEB -- unrecognized; 0xEB; R275
  | unrecognizedEC -- unrecognized; 0xEC; R275
  | unrecognizedED -- unrecognized; 0xED; R275
  | unrecognizedF4 -- unrecognized; 0xF4; R275
  | unrecognizedFC -- unrecognized; 0xFC; R275
  | unrecognizedFD -- unrecognized; 0xFD; R275
  deriving DecidableEq, Repr

/-- One of seven by an 8-bit register, in the order of R92. -/
def Reg8.pick {α : Type} (r : Reg8) (b c d e h l a : α) : α :=
  match r with
  | .b => b
  | .c => c
  | .d => d
  | .e => e
  | .h => h
  | .l => l
  | .a => a

/-- One of eight by the operand field, in the order of R92. -/
def Loc.pick {α : Type} (x : Loc) (b c d e h l indHl a : α) : α :=
  match x with
  | .indHl => indHl
  | .reg r => r.pick b c d e h l a

/-- One of four by the pair field, in the order of R93. -/
def Reg16.pick {α : Type} (rr : Reg16) (bc de hl sp : α) : α :=
  match rr with
  | .bc => bc
  | .de => de
  | .hl => hl
  | .sp => sp

/-- One of four by the stack-group pair field, in the order of R94. -/
def StackPair.pick {α : Type} (q : StackPair) (bc de hl af : α) : α :=
  match q with
  | .bc => bc
  | .de => de
  | .hl => hl
  | .af => af

/-- One of four by the condition field, in the order of R95. -/
def Cond.pick {α : Type} (cc : Cond) (nz z nc c : α) : α :=
  match cc with
  | .nz => nz
  | .z => z
  | .nc => nc
  | .c => c

/-- LD r,r' (R100, R121). -/
def Instr.ldReg (dst r : Reg8) : Instr :=
  match dst with
  | .b => r.pick .ldBB .ldBC .ldBD .ldBE .ldBH .ldBL .ldBA
  | .c => r.pick .ldCB .ldCC .ldCD .ldCE .ldCH .ldCL .ldCA
  | .d => r.pick .ldDB .ldDC .ldDD .ldDE .ldDH .ldDL .ldDA
  | .e => r.pick .ldEB .ldEC .ldED .ldEE .ldEH .ldEL .ldEA
  | .h => r.pick .ldHB .ldHC .ldHD .ldHE .ldHH .ldHL .ldHA
  | .l => r.pick .ldLB .ldLC .ldLD .ldLE .ldLH .ldLL .ldLA
  | .a => r.pick .ldAB .ldAC .ldAD .ldAE .ldAH .ldAL .ldAA

/-- LD r,n8 (R99, R122). -/
def Instr.ldRegN8 (dst : Reg8) (n : Byte) : Instr :=
  dst.pick (.ldBN8 n) (.ldCN8 n) (.ldDN8 n) (.ldEN8 n) (.ldHN8 n) (.ldLN8 n) (.ldAN8 n)

/-- LD r,(HL) (R100, R123). -/
def Instr.ldRegIndHl (dst : Reg8) : Instr :=
  dst.pick .ldBIndHl .ldCIndHl .ldDIndHl .ldEIndHl .ldHIndHl .ldLIndHl .ldAIndHl

/-- LD (HL),r (R100, R124). -/
def Instr.ldIndHlReg (r : Reg8) : Instr :=
  r.pick .ldIndHlB .ldIndHlC .ldIndHlD .ldIndHlE .ldIndHlH .ldIndHlL .ldIndHlA

/-- LD rr,n16 (R99, R140). -/
def Instr.ldPairN16 (rr : Reg16) (n : Word) : Instr :=
  rr.pick (.ldBcN16 n) (.ldDeN16 n) (.ldHlN16 n) (.ldSpN16 n)

/-- PUSH rr (R102, R145). -/
def Instr.push (q : StackPair) : Instr :=
  q.pick .pushBc .pushDe .pushHl .pushAf

/-- POP rr (R102, R146, R147). -/
def Instr.pop (q : StackPair) : Instr :=
  q.pick .popBc .popDe .popHl .popAf

/-- The ALU operation on A and a register or (HL) (R101, R165). -/
def Instr.alu (op : AluOp) (x : Loc) : Instr :=
  match op with
  | .add => x.pick .addAB .addAC .addAD .addAE .addAH .addAL .addAIndHl .addAA
  | .adc => x.pick .adcAB .adcAC .adcAD .adcAE .adcAH .adcAL .adcAIndHl .adcAA
  | .sub => x.pick .subB .subC .subD .subE .subH .subL .subIndHl .subA
  | .sbc => x.pick .sbcAB .sbcAC .sbcAD .sbcAE .sbcAH .sbcAL .sbcAIndHl .sbcAA
  | .and => x.pick .andB .andC .andD .andE .andH .andL .andIndHl .andA
  | .xor => x.pick .xorB .xorC .xorD .xorE .xorH .xorL .xorIndHl .xorA
  | .or => x.pick .orB .orC .orD .orE .orH .orL .orIndHl .orA
  | .cp => x.pick .cpB .cpC .cpD .cpE .cpH .cpL .cpIndHl .cpA

/-- The ALU operation on A and n8 (R102, R165). -/
def Instr.aluN8 (op : AluOp) (n : Byte) : Instr :=
  match op with
  | .add => .addAN8 n
  | .adc => .adcAN8 n
  | .sub => .subN8 n
  | .sbc => .sbcAN8 n
  | .and => .andN8 n
  | .xor => .xorN8 n
  | .or => .orN8 n
  | .cp => .cpN8 n

/-- INC r and INC (HL) (R99, R174, R175). -/
def Instr.inc (x : Loc) : Instr :=
  x.pick .incB .incC .incD .incE .incH .incL .incIndHl .incA

/-- DEC r and DEC (HL) (R99, R176, R177). -/
def Instr.dec (x : Loc) : Instr :=
  x.pick .decB .decC .decD .decE .decH .decL .decIndHl .decA

/-- INC rr (R99, R202). -/
def Instr.incPair (rr : Reg16) : Instr :=
  rr.pick .incBc .incDe .incHl .incSp

/-- DEC rr (R99, R203). -/
def Instr.decPair (rr : Reg16) : Instr :=
  rr.pick .decBc .decDe .decHl .decSp

/-- ADD HL,rr (R99, R201). -/
def Instr.addHlPair (rr : Reg16) : Instr :=
  rr.pick .addHlBc .addHlDe .addHlHl .addHlSp

/-- JP cc,a16 (R102, R222). -/
def Instr.jpCond (cc : Cond) (a : Word) : Instr :=
  cc.pick (.jpNzA16 a) (.jpZA16 a) (.jpNcA16 a) (.jpCA16 a)

/-- JR cc,e8 (R99, R225). -/
def Instr.jrCond (cc : Cond) (e : Byte) : Instr :=
  cc.pick (.jrNzE8 e) (.jrZE8 e) (.jrNcE8 e) (.jrCE8 e)

/-- CALL cc,a16 (R102, R227). -/
def Instr.callCond (cc : Cond) (a : Word) : Instr :=
  cc.pick (.callNzA16 a) (.callZA16 a) (.callNcA16 a) (.callCA16 a)

/-- RET cc (R102, R229). -/
def Instr.retCond (cc : Cond) : Instr :=
  cc.pick .retNz .retZ .retNc .retC

/-- RST with target t * 8 (R102, R231). -/
def Instr.rst (t : Fin 8) : Instr :=
  match t with
  | 0 => .rst00
  | 1 => .rst08
  | 2 => .rst10
  | 3 => .rst18
  | 4 => .rst20
  | 5 => .rst28
  | 6 => .rst30
  | 7 => .rst38

/-- A rotate, shift or swap of the CB table (R104, R251 to R258). -/
def Instr.shift (op : ShiftOp) (x : Loc) : Instr :=
  match op with
  | .rlc => x.pick .rlcB .rlcC .rlcD .rlcE .rlcH .rlcL .rlcIndHl .rlcA
  | .rrc => x.pick .rrcB .rrcC .rrcD .rrcE .rrcH .rrcL .rrcIndHl .rrcA
  | .rl => x.pick .rlB .rlC .rlD .rlE .rlH .rlL .rlIndHl .rlA
  | .rr => x.pick .rrB .rrC .rrD .rrE .rrH .rrL .rrIndHl .rrA
  | .sla => x.pick .slaB .slaC .slaD .slaE .slaH .slaL .slaIndHl .slaA
  | .sra => x.pick .sraB .sraC .sraD .sraE .sraH .sraL .sraIndHl .sraA
  | .swap => x.pick .swapB .swapC .swapD .swapE .swapH .swapL .swapIndHl .swapA
  | .srl => x.pick .srlB .srlC .srlD .srlE .srlH .srlL .srlIndHl .srlA

/-- BIT b,r (R104, R259). -/
def Instr.bit (b : Fin 8) (x : Loc) : Instr :=
  match b with
  | 0 => x.pick .bit0B .bit0C .bit0D .bit0E .bit0H .bit0L .bit0IndHl .bit0A
  | 1 => x.pick .bit1B .bit1C .bit1D .bit1E .bit1H .bit1L .bit1IndHl .bit1A
  | 2 => x.pick .bit2B .bit2C .bit2D .bit2E .bit2H .bit2L .bit2IndHl .bit2A
  | 3 => x.pick .bit3B .bit3C .bit3D .bit3E .bit3H .bit3L .bit3IndHl .bit3A
  | 4 => x.pick .bit4B .bit4C .bit4D .bit4E .bit4H .bit4L .bit4IndHl .bit4A
  | 5 => x.pick .bit5B .bit5C .bit5D .bit5E .bit5H .bit5L .bit5IndHl .bit5A
  | 6 => x.pick .bit6B .bit6C .bit6D .bit6E .bit6H .bit6L .bit6IndHl .bit6A
  | 7 => x.pick .bit7B .bit7C .bit7D .bit7E .bit7H .bit7L .bit7IndHl .bit7A

/-- RES b,r (R104, R260). -/
def Instr.res (b : Fin 8) (x : Loc) : Instr :=
  match b with
  | 0 => x.pick .res0B .res0C .res0D .res0E .res0H .res0L .res0IndHl .res0A
  | 1 => x.pick .res1B .res1C .res1D .res1E .res1H .res1L .res1IndHl .res1A
  | 2 => x.pick .res2B .res2C .res2D .res2E .res2H .res2L .res2IndHl .res2A
  | 3 => x.pick .res3B .res3C .res3D .res3E .res3H .res3L .res3IndHl .res3A
  | 4 => x.pick .res4B .res4C .res4D .res4E .res4H .res4L .res4IndHl .res4A
  | 5 => x.pick .res5B .res5C .res5D .res5E .res5H .res5L .res5IndHl .res5A
  | 6 => x.pick .res6B .res6C .res6D .res6E .res6H .res6L .res6IndHl .res6A
  | 7 => x.pick .res7B .res7C .res7D .res7E .res7H .res7L .res7IndHl .res7A

/-- SET b,r (R104, R261). -/
def Instr.set (b : Fin 8) (x : Loc) : Instr :=
  match b with
  | 0 => x.pick .set0B .set0C .set0D .set0E .set0H .set0L .set0IndHl .set0A
  | 1 => x.pick .set1B .set1C .set1D .set1E .set1H .set1L .set1IndHl .set1A
  | 2 => x.pick .set2B .set2C .set2D .set2E .set2H .set2L .set2IndHl .set2A
  | 3 => x.pick .set3B .set3C .set3D .set3E .set3H .set3L .set3IndHl .set3A
  | 4 => x.pick .set4B .set4C .set4D .set4E .set4H .set4L .set4IndHl .set4A
  | 5 => x.pick .set5B .set5C .set5D .set5E .set5H .set5L .set5IndHl .set5A
  | 6 => x.pick .set6B .set6C .set6D .set6E .set6H .set6L .set6IndHl .set6A
  | 7 => x.pick .set7B .set7C .set7D .set7E .set7H .set7L .set7IndHl .set7A

/-- The eleven unrecognized opcodes, in rising order (R105). -/
def Instr.unrecognized (k : Fin 11) : Instr :=
  match k with
  | 0 => .unrecognizedD3
  | 1 => .unrecognizedDB
  | 2 => .unrecognizedDD
  | 3 => .unrecognizedE3
  | 4 => .unrecognizedE4
  | 5 => .unrecognizedEB
  | 6 => .unrecognizedEC
  | 7 => .unrecognizedED
  | 8 => .unrecognizedF4
  | 9 => .unrecognizedFC
  | 10 => .unrecognizedFD

end Sys2Proof
end

