-- ==== Sys2Proof/Machine/Operands.lean ====
section
/-! DEFINITION. The operand forms (spec 30_encoding §1; 10_state R20, R21): 8-bit registers, register pairs, the 8-way operand with (HL), and
the condition. -/

namespace Sys2Proof.Machine

/-- `x[r]` for an 8-bit register (10_state R20). -/
def getReg (r : Reg8) (s : State) : Byte :=
  match r with
  | .b => s.cpu.b
  | .c => s.cpu.c
  | .d => s.cpu.d
  | .e => s.cpu.e
  | .h => s.cpu.h
  | .l => s.cpu.l
  | .a => s.cpu.a

/-- `x[r] <- v`. -/
def setReg (r : Reg8) (v : Byte) (s : State) : State :=
  match r with
  | .b => { s with cpu := { s.cpu with b := v } }
  | .c => { s with cpu := { s.cpu with c := v } }
  | .d => { s with cpu := { s.cpu with d := v } }
  | .e => { s with cpu := { s.cpu with e := v } }
  | .h => { s with cpu := { s.cpu with h := v } }
  | .l => { s with cpu := { s.cpu with l := v } }
  | .a => { s with cpu := { s.cpu with a := v } }

/-- `BC = B ++ C` (10_state R21). -/
def regBC (s : State) : Word := joinBytes s.cpu.b s.cpu.c

/-- `DE = D ++ E` (10_state R21). -/
def regDE (s : State) : Word := joinBytes s.cpu.d s.cpu.e

/-- `HL = H ++ L` (10_state R21). -/
def regHL (s : State) : Word := joinBytes s.cpu.h s.cpu.l

/-- `AF = A ++ F` (10_state R21). -/
def regAF (s : State) : Word := joinBytes s.cpu.a s.cpu.f

/-- `HL <- v`: writing a pair writes both halves (10_state R21). -/
def setHL (v : Word) (s : State) : State :=
  { s with cpu := { s.cpu with h := highByte v, l := lowByte v } }

/-- `x[rr]` for the pair field of the load and arithmetic group (30_encoding R93). -/
def getPair (rr : Reg16) (s : State) : Word :=
  match rr with
  | .bc => regBC s
  | .de => regDE s
  | .hl => regHL s
  | .sp => s.cpu.sp

/-- `x[rr] <- v`: both halves are written (10_state R21). -/
def setPair (rr : Reg16) (v : Word) (s : State) : State :=
  match rr with
  | .bc => { s with cpu := { s.cpu with b := highByte v, c := lowByte v } }
  | .de => { s with cpu := { s.cpu with d := highByte v, e := lowByte v } }
  | .hl => setHL v s
  | .sp => setSp v s

/-- `x[rr]` for the pair field of the stack group (30_encoding R94). -/
def getStackPair (q : StackPair) (s : State) : Word :=
  match q with
  | .bc => regBC s
  | .de => regDE s
  | .hl => regHL s
  | .af => regAF s

/-- `x[rr] <- v` for POP; into AF the low nibble of F is forced to zero (40_loads R146, R147). -/
def setStackPair (q : StackPair) (v : Word) (s : State) : State :=
  match q with
  | .bc => { s with cpu := { s.cpu with b := highByte v, c := lowByte v } }
  | .de => { s with cpu := { s.cpu with d := highByte v, e := lowByte v } }
  | .hl => setHL v s
  | .af => { s with cpu := { s.cpu with a := highByte v, f := lowByte v &&& 0xF0#8 } }

/-- `get(z)` of 44_prefixed R250: a register, or the byte at HL. -/
def getLoc (x : Loc) (s : State) : Byte :=
  match x with
  | .reg r => getReg r s
  | .indHl => readByte s (regHL s)

/-- `put(z, v)` of 44_prefixed R250. -/
def putLoc (x : Loc) (v : Byte) (s : State) : State :=
  match x with
  | .reg r => setReg r v s
  | .indHl => writeByte s (regHL s) v

/-- `cond(cc)`: a pure function of the flags Z = F[7] and Cy = F[4] (43_control R220; 30_encoding R95). -/
def condHolds (cc : Cond) (s : State) : Bool :=
  match cc with
  | .nz => !s.cpu.f.getLsbD 7
  | .z => s.cpu.f.getLsbD 7
  | .nc => !s.cpu.f.getLsbD 4
  | .c => s.cpu.f.getLsbD 4

end Sys2Proof.Machine
end

