-- ==== Sys2Proof/Machine/Flags.lean ====
section
/-! DEFINITION. The flags of F (spec 10_state §2) and every flag computation the spec gives: the ALU primitives (41_alu8 §1), INC and DEC
(§3), DAA (§4), the rotates and shifts (41_alu8 §5; 44_prefixed §1), add16 and sp_add (42_alu16). Arithmetic marked "unbounded" in the
spec is done on Nat or Int and narrowed at the end. -/

namespace Sys2Proof.Machine

/-- Z = F[7] (10_state R23). -/
def flagZ (s : State) : Bool := s.cpu.f.getLsbD 7

/-- N = F[6] (10_state R23). -/
def flagN (s : State) : Bool := s.cpu.f.getLsbD 6

/-- Hf = F[5] (10_state R23). -/
def flagH (s : State) : Bool := s.cpu.f.getLsbD 5

/-- Cy = F[4] (10_state R23). -/
def flagC (s : State) : Bool := s.cpu.f.getLsbD 4

/-- F with its four flags written and its other bits kept (10_state R24, R25). -/
def withFlags (f : Byte) (z n h c : Bool) : Byte :=
  (f &&& 0x0F#8) ||| (if z then 0x80#8 else 0x00#8) ||| (if n then 0x40#8 else 0x00#8) |||
    (if h then 0x20#8 else 0x00#8) ||| (if c then 0x10#8 else 0x00#8)

/-- Write the four flags; an unchanged flag is given its old value (10_state R25). -/
def setFlags (z n h c : Bool) (s : State) : State :=
  { s with cpu := { s.cpu with f := withFlags s.cpu.f z n h c } }

/-- The result and the flags N, Hf and Cy of an ALU primitive; Z is computed by the caller (41_alu8 R160). -/
structure AluResult where
  r : Byte
  n : Bool
  h : Bool
  c : Bool
  deriving DecidableEq, Repr

/-- `add8(a, b, cin)` (R160). -/
def add8 (a b : Byte) (cin : Bool) : AluResult :=
  let sum := a.toNat + b.toNat + cin.toNat
  { r := BitVec.ofNat 8 sum
    n := false
    h := decide (a.toNat % 16 + b.toNat % 16 + cin.toNat > 0x0F)
    c := decide (sum > 255) }

/-- `sub8(a, b, cin)`: carry and half-carry report borrow (R161). -/
def sub8 (a b : Byte) (cin : Bool) : AluResult :=
  let diff : Int := (a.toNat : Int) - (b.toNat : Int) - (cin.toNat : Int)
  { r := BitVec.ofInt 8 diff
    n := true
    h := decide (((a.toNat % 16 : Nat) : Int) - ((b.toNat % 16 : Nat) : Int) - (cin.toNat : Int) < 0)
    c := decide (diff < 0) }

/-- `and8(a, b)` (R162). -/
def and8 (a b : Byte) : AluResult := { r := a &&& b, n := false, h := true, c := false }

/-- `or8(a, b)` (R163). -/
def or8 (a b : Byte) : AluResult := { r := a ||| b, n := false, h := false, c := false }

/-- `xor8(a, b)` (R164). -/
def xor8 (a b : Byte) : AluResult := { r := a ^^^ b, n := false, h := false, c := false }

/-- The primitive of each ALU operation on A and `src`, with the incoming carry flag (R166 to R173). CP computes what SUB does. -/
def aluPrimitive (op : AluOp) (a src : Byte) (cy : Bool) : AluResult :=
  match op with
  | .add => add8 a src false
  | .adc => add8 a src cy
  | .sub => sub8 a src false
  | .sbc => sub8 a src cy
  | .and => and8 a src
  | .xor => xor8 a src
  | .or => or8 a src
  | .cp => sub8 a src false

/-- Hf of INC: the low nibble of the old value was 0xF (R174). -/
def incHalf (v : Byte) : Bool := decide (v.toNat % 16 = 0x0F)

/-- Hf of DEC: the low nibble of the old value was 0 (R176). -/
def decHalf (v : Byte) : Bool := decide (v.toNat % 16 = 0)

/-- The flags after INC of the value `v`: Z, N = 0, Hf; Cy unchanged (R174, R175). -/
def setIncFlags (v : Byte) (s : State) : State := setFlags (decide (v + 1#8 = 0#8)) false (incHalf v) (flagC s) s

/-- The flags after DEC of the value `v`: Z, N = 1, Hf; Cy unchanged (R176, R177). -/
def setDecFlags (v : Byte) (s : State) : State := setFlags (decide (v - 1#8 = 0#8)) true (decHalf v) (flagC s) s

/-- The adjustment 0x60 of the addition branch applies: Cy = 1 or A > 0x99, on the unadjusted A (R178; 90_conflicts C1). -/
def daaHigh (a : Byte) (c : Bool) : Bool := c || decide (a.toNat > 0x99)

/-- The adjustment 0x06 of the addition branch applies: Hf = 1 or the low nibble of the unadjusted A exceeds 9 (R178). -/
def daaLow (a : Byte) (h : Bool) : Bool := h || decide (a.toNat % 16 > 9)

/-- `adj`: 0x60 and 0x06, each when its test holds (R178). -/
def daaAdjustment (high low : Bool) : Byte := (if high then 0x60#8 else 0x00#8) ||| (if low then 0x06#8 else 0x00#8)

/-- A after DAA (R178). -/
def daaResult (a : Byte) (n h c : Bool) : Byte :=
  if n then a - daaAdjustment c h else a + daaAdjustment (daaHigh a c) (daaLow a h)

/-- Cy after DAA: set by the 0x60 adjustment of the addition branch, otherwise unchanged (R178). -/
def daaCarry (a : Byte) (n c : Bool) : Bool := if n then c else daaHigh a c

/-- A rotated or shifted byte and the bit that leaves it. -/
structure ShiftResult where
  r : Byte
  c : Bool
  deriving DecidableEq, Repr

/-- A flag as a byte, for bit 0. -/
def carryLow (c : Bool) : Byte := if c then 0x01#8 else 0x00#8

/-- A flag as a byte, for bit 7. -/
def carryHigh (c : Bool) : Byte := if c then 0x80#8 else 0x00#8

/-- The eight rotates, shifts and the swap of a byte, with the incoming carry flag (44_prefixed R251 to R258; RLCA, RRCA, RLA and RRA are
RLC, RRC, RL and RR of A, 41_alu8 R182 to R185). -/
def shiftByte (op : ShiftOp) (v : Byte) (cy : Bool) : ShiftResult :=
  match op with
  | .rlc => { r := (v <<< 1) ||| carryLow (v.getLsbD 7), c := v.getLsbD 7 }
  | .rrc => { r := (v >>> 1) ||| carryHigh (v.getLsbD 0), c := v.getLsbD 0 }
  | .rl => { r := (v <<< 1) ||| carryLow cy, c := v.getLsbD 7 }
  | .rr => { r := (v >>> 1) ||| carryHigh cy, c := v.getLsbD 0 }
  | .sla => { r := v <<< 1, c := v.getLsbD 7 }
  | .sra => { r := (v >>> 1) ||| (v &&& 0x80#8), c := v.getLsbD 0 }
  | .swap => { r := (v <<< 4) ||| (v >>> 4), c := false }
  | .srl => { r := v >>> 1, c := v.getLsbD 0 }

/-- A 16-bit sum with its half-carry and carry. -/
structure WordSum where
  r : Word
  h : Bool
  c : Bool
  deriving DecidableEq, Repr

/-- `add16(h, v)`: half-carry out of bit 11, carry out of bit 15 (42_alu16 R200). -/
def add16 (x v : Word) : WordSum :=
  { r := BitVec.ofNat 16 (x.toNat + v.toNat)
    h := decide (x.toNat % 0x1000 + v.toNat % 0x1000 > 0x0FFF)
    c := decide (x.toNat + v.toNat > 0xFFFF) }

/-- `sp_add(sp, e)`: the byte is sign-extended for the sum; the flags are those of the unsigned low bytes (42_alu16 R204). -/
def spAdd (sp : Word) (e : Byte) : WordSum :=
  { r := sp + signExtend16 e
    h := decide (sp.toNat % 16 + e.toNat % 16 > 0x0F)
    c := decide (sp.toNat % 256 + e.toNat > 0xFF) }

end Sys2Proof.Machine
end

