-- ==== Sys2Proof/Machine/Alu16.lean ====
section
/-! DEFINITION. 16-bit arithmetic (spec 42_alu16 R200 to R206): the shared operations, then one meaning per instruction. -/

namespace Sys2Proof.Machine

/-- ADD HL,rr: N = 0, Hf and Cy of add16, Z unchanged (R201). -/
def addToHL (rr : Reg16) (s : State) : State :=
  let x := add16 (regHL s) (getPair rr s)
  setFlags (flagZ s) false x.h x.c (setHL x.r (advance 1 s))

/-- INC rr (`delta` = 1) and DEC rr (`delta` = 0xFFFF, which is -1), modulo 2^16, no flag (R202, R203). -/
def stepPair (rr : Reg16) (delta : Word) (s : State) : State := setPair rr (getPair rr s + delta) (advance 1 s)

/-- The flags of ADD SP,e8 and LD HL,SP+e8: Z = N = 0, Hf and Cy of sp_add (R205, R206). -/
def setSpAddFlags (x : WordSum) (s : State) : State := setFlags false false x.h x.c s

/-- INC BC (0x03), R202. -/
def execIncBc (s : State) : StepOutcome := .next (stepPair .bc 1#16 s)

/-- ADD HL,BC (0x09), R201. -/
def execAddHlBc (s : State) : StepOutcome := .next (addToHL .bc s)

/-- DEC BC (0x0B), R203. -/
def execDecBc (s : State) : StepOutcome := .next (stepPair .bc 0xFFFF#16 s)

/-- INC DE (0x13), R202. -/
def execIncDe (s : State) : StepOutcome := .next (stepPair .de 1#16 s)

/-- ADD HL,DE (0x19), R201. -/
def execAddHlDe (s : State) : StepOutcome := .next (addToHL .de s)

/-- DEC DE (0x1B), R203. -/
def execDecDe (s : State) : StepOutcome := .next (stepPair .de 0xFFFF#16 s)

/-- INC HL (0x23), R202. -/
def execIncHl (s : State) : StepOutcome := .next (stepPair .hl 1#16 s)

/-- ADD HL,HL (0x29), R201. -/
def execAddHlHl (s : State) : StepOutcome := .next (addToHL .hl s)

/-- DEC HL (0x2B), R203. -/
def execDecHl (s : State) : StepOutcome := .next (stepPair .hl 0xFFFF#16 s)

/-- INC SP (0x33), R202. -/
def execIncSp (s : State) : StepOutcome := .next (stepPair .sp 1#16 s)

/-- ADD HL,SP (0x39), R201. -/
def execAddHlSp (s : State) : StepOutcome := .next (addToHL .sp s)

/-- DEC SP (0x3B), R203. -/
def execDecSp (s : State) : StepOutcome := .next (stepPair .sp 0xFFFF#16 s)

/-- ADD SP,e8 (0xE8), R205. -/
def execAddSpE8 (e : Byte) (s : State) : StepOutcome := .next (setSpAddFlags (spAdd s.cpu.sp e) (setSp (spAdd s.cpu.sp e).r (advance 2 s)))

/-- LD HL,SP+e8 (0xF8), R206. -/
def execLdHlSpE8 (e : Byte) (s : State) : StepOutcome := .next (setSpAddFlags (spAdd s.cpu.sp e) (setHL (spAdd s.cpu.sp e).r (advance 2 s)))

end Sys2Proof.Machine
end

