-- ==== Sys2Proof/Machine/Alu8.lean ====
section
/-! DEFINITION. The 8-bit ALU (spec 41_alu8 R165 to R185): the shared operations, then one meaning per instruction. -/

namespace Sys2Proof.Machine

/-- A after an ALU instruction whose primitive gave `x`: CP discards the result (R166 to R173). -/
def writeAluResult (op : AluOp) (x : AluResult) (s : State) : State :=
  match op with
  | .cp => s
  | .add => setReg .a x.r s
  | .adc => setReg .a x.r s
  | .sub => setReg .a x.r s
  | .sbc => setReg .a x.r s
  | .and => setReg .a x.r s
  | .xor => setReg .a x.r s
  | .or => setReg .a x.r s

/-- An ALU instruction of `len` bytes on A and the value `v`: all four flags are written, Z from the result (R165 to R173). -/
def aluOnA (op : AluOp) (len : Nat) (v : Byte) (s : State) : State :=
  let x := aluPrimitive op s.cpu.a v (flagC s)
  setFlags (decide (x.r = 0#8)) x.n x.h x.c (writeAluResult op x (advance len s))

/-- The form with a register or (HL) (R165). -/
def aluLoc (op : AluOp) (x : Loc) (s : State) : State := aluOnA op 1 (getLoc x s) s

/-- The form with an immediate (R165). -/
def aluImm (op : AluOp) (n : Byte) (s : State) : State := aluOnA op 2 n s

/-- INC r and INC (HL): the flags come from the value read, whatever the write does (R174, R175). -/
def incLoc (x : Loc) (s : State) : State :=
  setIncFlags (getLoc x s) (putLoc x (getLoc x s + 1#8) (advance 1 s))

/-- DEC r and DEC (HL) (R176, R177). -/
def decLoc (x : Loc) (s : State) : State :=
  setDecFlags (getLoc x s) (putLoc x (getLoc x s - 1#8) (advance 1 s))

/-- DAA (R178): Z from the result, N unchanged, Hf = 0. -/
def decimalAdjust (s : State) : State :=
  let r := daaResult s.cpu.a (flagN s) (flagH s) (flagC s)
  setFlags (decide (r = 0#8)) (flagN s) false (daaCarry s.cpu.a (flagN s) (flagC s)) (setReg .a r (advance 1 s))

/-- CPL: Z and Cy unchanged (R179). -/
def complementA (s : State) : State := setFlags (flagZ s) true true (flagC s) (setReg .a (~~~s.cpu.a) (advance 1 s))

/-- SCF and CCF: N = Hf = 0, Cy given, Z unchanged (R180, R181). -/
def writeCarry (c : Bool) (s : State) : State := setFlags (flagZ s) false false c (advance 1 s)

/-- RLCA, RRCA, RLA and RRA: Z is always cleared (R182 to R185, D20). -/
def rotateA (op : ShiftOp) (s : State) : State :=
  let x := shiftByte op s.cpu.a (flagC s)
  setFlags false false false x.c (setReg .a x.r (advance 1 s))

/-- INC B (0x04), R174. -/
def execIncB (s : State) : StepOutcome := .next (incLoc (.reg .b) s)

/-- DEC B (0x05), R176. -/
def execDecB (s : State) : StepOutcome := .next (decLoc (.reg .b) s)

/-- RLCA (0x07), R182. -/
def execRlca (s : State) : StepOutcome := .next (rotateA .rlc s)

/-- INC C (0x0C), R174. -/
def execIncC (s : State) : StepOutcome := .next (incLoc (.reg .c) s)

/-- DEC C (0x0D), R176. -/
def execDecC (s : State) : StepOutcome := .next (decLoc (.reg .c) s)

/-- RRCA (0x0F), R183. -/
def execRrca (s : State) : StepOutcome := .next (rotateA .rrc s)

/-- INC D (0x14), R174. -/
def execIncD (s : State) : StepOutcome := .next (incLoc (.reg .d) s)

/-- DEC D (0x15), R176. -/
def execDecD (s : State) : StepOutcome := .next (decLoc (.reg .d) s)

/-- RLA (0x17), R184. -/
def execRla (s : State) : StepOutcome := .next (rotateA .rl s)

/-- INC E (0x1C), R174. -/
def execIncE (s : State) : StepOutcome := .next (incLoc (.reg .e) s)

/-- DEC E (0x1D), R176. -/
def execDecE (s : State) : StepOutcome := .next (decLoc (.reg .e) s)

/-- RRA (0x1F), R185. -/
def execRra (s : State) : StepOutcome := .next (rotateA .rr s)

/-- INC H (0x24), R174. -/
def execIncH (s : State) : StepOutcome := .next (incLoc (.reg .h) s)

/-- DEC H (0x25), R176. -/
def execDecH (s : State) : StepOutcome := .next (decLoc (.reg .h) s)

/-- DAA (0x27), R178. -/
def execDaa (s : State) : StepOutcome := .next (decimalAdjust s)

/-- INC L (0x2C), R174. -/
def execIncL (s : State) : StepOutcome := .next (incLoc (.reg .l) s)

/-- DEC L (0x2D), R176. -/
def execDecL (s : State) : StepOutcome := .next (decLoc (.reg .l) s)

/-- CPL (0x2F), R179. -/
def execCpl (s : State) : StepOutcome := .next (complementA s)

/-- INC (HL) (0x34), R175. -/
def execIncIndHl (s : State) : StepOutcome := .next (incLoc .indHl s)

/-- DEC (HL) (0x35), R177. -/
def execDecIndHl (s : State) : StepOutcome := .next (decLoc .indHl s)

/-- SCF (0x37), R180. -/
def execScf (s : State) : StepOutcome := .next (writeCarry true s)

/-- INC A (0x3C), R174. -/
def execIncA (s : State) : StepOutcome := .next (incLoc (.reg .a) s)

/-- DEC A (0x3D), R176. -/
def execDecA (s : State) : StepOutcome := .next (decLoc (.reg .a) s)

/-- CCF (0x3F), R181. -/
def execCcf (s : State) : StepOutcome := .next (writeCarry (!flagC s) s)

/-- ADD A,B (0x80), R166. -/
def execAddAB (s : State) : StepOutcome := .next (aluLoc .add (.reg .b) s)

/-- ADD A,C (0x81), R166. -/
def execAddAC (s : State) : StepOutcome := .next (aluLoc .add (.reg .c) s)

/-- ADD A,D (0x82), R166. -/
def execAddAD (s : State) : StepOutcome := .next (aluLoc .add (.reg .d) s)

/-- ADD A,E (0x83), R166. -/
def execAddAE (s : State) : StepOutcome := .next (aluLoc .add (.reg .e) s)

/-- ADD A,H (0x84), R166. -/
def execAddAH (s : State) : StepOutcome := .next (aluLoc .add (.reg .h) s)

/-- ADD A,L (0x85), R166. -/
def execAddAL (s : State) : StepOutcome := .next (aluLoc .add (.reg .l) s)

/-- ADD A,(HL) (0x86), R166. -/
def execAddAIndHl (s : State) : StepOutcome := .next (aluLoc .add .indHl s)

/-- ADD A,A (0x87), R166. -/
def execAddAA (s : State) : StepOutcome := .next (aluLoc .add (.reg .a) s)

/-- ADC A,B (0x88), R167. -/
def execAdcAB (s : State) : StepOutcome := .next (aluLoc .adc (.reg .b) s)

/-- ADC A,C (0x89), R167. -/
def execAdcAC (s : State) : StepOutcome := .next (aluLoc .adc (.reg .c) s)

/-- ADC A,D (0x8A), R167. -/
def execAdcAD (s : State) : StepOutcome := .next (aluLoc .adc (.reg .d) s)

/-- ADC A,E (0x8B), R167. -/
def execAdcAE (s : State) : StepOutcome := .next (aluLoc .adc (.reg .e) s)

/-- ADC A,H (0x8C), R167. -/
def execAdcAH (s : State) : StepOutcome := .next (aluLoc .adc (.reg .h) s)

/-- ADC A,L (0x8D), R167. -/
def execAdcAL (s : State) : StepOutcome := .next (aluLoc .adc (.reg .l) s)

/-- ADC A,(HL) (0x8E), R167. -/
def execAdcAIndHl (s : State) : StepOutcome := .next (aluLoc .adc .indHl s)

/-- ADC A,A (0x8F), R167. -/
def execAdcAA (s : State) : StepOutcome := .next (aluLoc .adc (.reg .a) s)

/-- SUB B (0x90), R168. -/
def execSubB (s : State) : StepOutcome := .next (aluLoc .sub (.reg .b) s)

/-- SUB C (0x91), R168. -/
def execSubC (s : State) : StepOutcome := .next (aluLoc .sub (.reg .c) s)

/-- SUB D (0x92), R168. -/
def execSubD (s : State) : StepOutcome := .next (aluLoc .sub (.reg .d) s)

/-- SUB E (0x93), R168. -/
def execSubE (s : State) : StepOutcome := .next (aluLoc .sub (.reg .e) s)

/-- SUB H (0x94), R168. -/
def execSubH (s : State) : StepOutcome := .next (aluLoc .sub (.reg .h) s)

/-- SUB L (0x95), R168. -/
def execSubL (s : State) : StepOutcome := .next (aluLoc .sub (.reg .l) s)

/-- SUB (HL) (0x96), R168. -/
def execSubIndHl (s : State) : StepOutcome := .next (aluLoc .sub .indHl s)

/-- SUB A (0x97), R168. -/
def execSubA (s : State) : StepOutcome := .next (aluLoc .sub (.reg .a) s)

/-- SBC A,B (0x98), R169. -/
def execSbcAB (s : State) : StepOutcome := .next (aluLoc .sbc (.reg .b) s)

/-- SBC A,C (0x99), R169. -/
def execSbcAC (s : State) : StepOutcome := .next (aluLoc .sbc (.reg .c) s)

/-- SBC A,D (0x9A), R169. -/
def execSbcAD (s : State) : StepOutcome := .next (aluLoc .sbc (.reg .d) s)

/-- SBC A,E (0x9B), R169. -/
def execSbcAE (s : State) : StepOutcome := .next (aluLoc .sbc (.reg .e) s)

/-- SBC A,H (0x9C), R169. -/
def execSbcAH (s : State) : StepOutcome := .next (aluLoc .sbc (.reg .h) s)

/-- SBC A,L (0x9D), R169. -/
def execSbcAL (s : State) : StepOutcome := .next (aluLoc .sbc (.reg .l) s)

/-- SBC A,(HL) (0x9E), R169. -/
def execSbcAIndHl (s : State) : StepOutcome := .next (aluLoc .sbc .indHl s)

/-- SBC A,A (0x9F), R169. -/
def execSbcAA (s : State) : StepOutcome := .next (aluLoc .sbc (.reg .a) s)

/-- AND B (0xA0), R170. -/
def execAndB (s : State) : StepOutcome := .next (aluLoc .and (.reg .b) s)

/-- AND C (0xA1), R170. -/
def execAndC (s : State) : StepOutcome := .next (aluLoc .and (.reg .c) s)

/-- AND D (0xA2), R170. -/
def execAndD (s : State) : StepOutcome := .next (aluLoc .and (.reg .d) s)

/-- AND E (0xA3), R170. -/
def execAndE (s : State) : StepOutcome := .next (aluLoc .and (.reg .e) s)

/-- AND H (0xA4), R170. -/
def execAndH (s : State) : StepOutcome := .next (aluLoc .and (.reg .h) s)

/-- AND L (0xA5), R170. -/
def execAndL (s : State) : StepOutcome := .next (aluLoc .and (.reg .l) s)

/-- AND (HL) (0xA6), R170. -/
def execAndIndHl (s : State) : StepOutcome := .next (aluLoc .and .indHl s)

/-- AND A (0xA7), R170. -/
def execAndA (s : State) : StepOutcome := .next (aluLoc .and (.reg .a) s)

/-- XOR B (0xA8), R171. -/
def execXorB (s : State) : StepOutcome := .next (aluLoc .xor (.reg .b) s)

/-- XOR C (0xA9), R171. -/
def execXorC (s : State) : StepOutcome := .next (aluLoc .xor (.reg .c) s)

/-- XOR D (0xAA), R171. -/
def execXorD (s : State) : StepOutcome := .next (aluLoc .xor (.reg .d) s)

/-- XOR E (0xAB), R171. -/
def execXorE (s : State) : StepOutcome := .next (aluLoc .xor (.reg .e) s)

/-- XOR H (0xAC), R171. -/
def execXorH (s : State) : StepOutcome := .next (aluLoc .xor (.reg .h) s)

/-- XOR L (0xAD), R171. -/
def execXorL (s : State) : StepOutcome := .next (aluLoc .xor (.reg .l) s)

/-- XOR (HL) (0xAE), R171. -/
def execXorIndHl (s : State) : StepOutcome := .next (aluLoc .xor .indHl s)

/-- XOR A (0xAF), R171. -/
def execXorA (s : State) : StepOutcome := .next (aluLoc .xor (.reg .a) s)

/-- OR B (0xB0), R172. -/
def execOrB (s : State) : StepOutcome := .next (aluLoc .or (.reg .b) s)

/-- OR C (0xB1), R172. -/
def execOrC (s : State) : StepOutcome := .next (aluLoc .or (.reg .c) s)

/-- OR D (0xB2), R172. -/
def execOrD (s : State) : StepOutcome := .next (aluLoc .or (.reg .d) s)

/-- OR E (0xB3), R172. -/
def execOrE (s : State) : StepOutcome := .next (aluLoc .or (.reg .e) s)

/-- OR H (0xB4), R172. -/
def execOrH (s : State) : StepOutcome := .next (aluLoc .or (.reg .h) s)

/-- OR L (0xB5), R172. -/
def execOrL (s : State) : StepOutcome := .next (aluLoc .or (.reg .l) s)

/-- OR (HL) (0xB6), R172. -/
def execOrIndHl (s : State) : StepOutcome := .next (aluLoc .or .indHl s)

/-- OR A (0xB7), R172. -/
def execOrA (s : State) : StepOutcome := .next (aluLoc .or (.reg .a) s)

/-- CP B (0xB8), R173. -/
def execCpB (s : State) : StepOutcome := .next (aluLoc .cp (.reg .b) s)

/-- CP C (0xB9), R173. -/
def execCpC (s : State) : StepOutcome := .next (aluLoc .cp (.reg .c) s)

/-- CP D (0xBA), R173. -/
def execCpD (s : State) : StepOutcome := .next (aluLoc .cp (.reg .d) s)

/-- CP E (0xBB), R173. -/
def execCpE (s : State) : StepOutcome := .next (aluLoc .cp (.reg .e) s)

/-- CP H (0xBC), R173. -/
def execCpH (s : State) : StepOutcome := .next (aluLoc .cp (.reg .h) s)

/-- CP L (0xBD), R173. -/
def execCpL (s : State) : StepOutcome := .next (aluLoc .cp (.reg .l) s)

/-- CP (HL) (0xBE), R173. -/
def execCpIndHl (s : State) : StepOutcome := .next (aluLoc .cp .indHl s)

/-- CP A (0xBF), R173. -/
def execCpA (s : State) : StepOutcome := .next (aluLoc .cp (.reg .a) s)

/-- ADD A,n8 (0xC6), R166. -/
def execAddAN8 (n : Byte) (s : State) : StepOutcome := .next (aluImm .add n s)

/-- ADC A,n8 (0xCE), R167. -/
def execAdcAN8 (n : Byte) (s : State) : StepOutcome := .next (aluImm .adc n s)

/-- SUB n8 (0xD6), R168. -/
def execSubN8 (n : Byte) (s : State) : StepOutcome := .next (aluImm .sub n s)

/-- SBC A,n8 (0xDE), R169. -/
def execSbcAN8 (n : Byte) (s : State) : StepOutcome := .next (aluImm .sbc n s)

/-- AND n8 (0xE6), R170. -/
def execAndN8 (n : Byte) (s : State) : StepOutcome := .next (aluImm .and n s)

/-- XOR n8 (0xEE), R171. -/
def execXorN8 (n : Byte) (s : State) : StepOutcome := .next (aluImm .xor n s)

/-- OR n8 (0xF6), R172. -/
def execOrN8 (n : Byte) (s : State) : StepOutcome := .next (aluImm .or n s)

/-- CP n8 (0xFE), R173. -/
def execCpN8 (n : Byte) (s : State) : StepOutcome := .next (aluImm .cp n s)

end Sys2Proof.Machine
end

