-- ==== Sys2Proof/Machine/Control.lean ====
section
/-! DEFINITION. Control transfer (spec 43_control R220 to R232): the shared operations, then one meaning per instruction. The immediates are always
fetched, so a transfer that is not taken leaves PC past the instruction (R220). No flag is written. -/

namespace Sys2Proof.Machine

/-- JP cc,a16, and JP a16 with `taken` true (R221, R222). -/
def jumpAbs (taken : Bool) (a : Word) (s : State) : State := if taken then jumpTo a (advance 3 s) else advance 3 s

/-- JR cc,e8, and JR e8 with `taken` true: relative to the next instruction, modulo 2^16 (R224, R225). -/
def jumpRel (taken : Bool) (e : Byte) (s : State) : State :=
  if taken then jumpTo (s.cpu.pc + 2#16 + signExtend16 e) (advance 2 s) else advance 2 s

/-- CALL cc,a16, and CALL a16 with `taken` true: the address after the CALL is pushed (R226, R227, D28). -/
def callAbs (taken : Bool) (a : Word) (s : State) : State :=
  if taken then jumpTo a (push16 (s.cpu.pc + 3#16) (advance 3 s)) else advance 3 s

/-- RET cc, and RET with `taken` true (R228, R229). -/
def returnFrom (taken : Bool) (s : State) : State :=
  if taken then jumpTo (popValue s) (dropWord (advance 1 s)) else advance 1 s

/-- RST t: the address after the 1-byte RST is pushed (R231). -/
def restartAt (t : Word) (s : State) : State := jumpTo t (push16 (s.cpu.pc + 1#16) (advance 1 s))

/-- JR e8 (0x18), R224. -/
def execJrE8 (e : Byte) (s : State) : StepOutcome := .next (jumpRel true e s)

/-- JR NZ,e8 (0x20), R225. -/
def execJrNzE8 (e : Byte) (s : State) : StepOutcome := .next (jumpRel (condHolds .nz s) e s)

/-- JR Z,e8 (0x28), R225. -/
def execJrZE8 (e : Byte) (s : State) : StepOutcome := .next (jumpRel (condHolds .z s) e s)

/-- JR NC,e8 (0x30), R225. -/
def execJrNcE8 (e : Byte) (s : State) : StepOutcome := .next (jumpRel (condHolds .nc s) e s)

/-- JR C,e8 (0x38), R225. -/
def execJrCE8 (e : Byte) (s : State) : StepOutcome := .next (jumpRel (condHolds .c s) e s)

/-- RET NZ (0xC0), R229. -/
def execRetNz (s : State) : StepOutcome := .next (returnFrom (condHolds .nz s) s)

/-- JP NZ,a16 (0xC2), R222. -/
def execJpNzA16 (a : Word) (s : State) : StepOutcome := .next (jumpAbs (condHolds .nz s) a s)

/-- JP a16 (0xC3), R221. -/
def execJpA16 (a : Word) (s : State) : StepOutcome := .next (jumpAbs true a s)

/-- CALL NZ,a16 (0xC4), R227. -/
def execCallNzA16 (a : Word) (s : State) : StepOutcome := .next (callAbs (condHolds .nz s) a s)

/-- RST 0x00 (0xC7), R231. -/
def execRst00 (s : State) : StepOutcome := .next (restartAt 0x0000#16 s)

/-- RET Z (0xC8), R229. -/
def execRetZ (s : State) : StepOutcome := .next (returnFrom (condHolds .z s) s)

/-- RET (0xC9), R228. -/
def execRet (s : State) : StepOutcome := .next (returnFrom true s)

/-- JP Z,a16 (0xCA), R222. -/
def execJpZA16 (a : Word) (s : State) : StepOutcome := .next (jumpAbs (condHolds .z s) a s)

/-- CALL Z,a16 (0xCC), R227. -/
def execCallZA16 (a : Word) (s : State) : StepOutcome := .next (callAbs (condHolds .z s) a s)

/-- CALL a16 (0xCD), R226. -/
def execCallA16 (a : Word) (s : State) : StepOutcome := .next (callAbs true a s)

/-- RST 0x08 (0xCF), R231. -/
def execRst08 (s : State) : StepOutcome := .next (restartAt 0x0008#16 s)

/-- RET NC (0xD0), R229. -/
def execRetNc (s : State) : StepOutcome := .next (returnFrom (condHolds .nc s) s)

/-- JP NC,a16 (0xD2), R222. -/
def execJpNcA16 (a : Word) (s : State) : StepOutcome := .next (jumpAbs (condHolds .nc s) a s)

/-- CALL NC,a16 (0xD4), R227. -/
def execCallNcA16 (a : Word) (s : State) : StepOutcome := .next (callAbs (condHolds .nc s) a s)

/-- RST 0x10 (0xD7), R231. -/
def execRst10 (s : State) : StepOutcome := .next (restartAt 0x0010#16 s)

/-- RET C (0xD8), R229. -/
def execRetC (s : State) : StepOutcome := .next (returnFrom (condHolds .c s) s)

/-- RETI (0xD9), R230. -/
def execReti (s : State) : StepOutcome := .next (setIme true (returnFrom true s))

/-- JP C,a16 (0xDA), R222. -/
def execJpCA16 (a : Word) (s : State) : StepOutcome := .next (jumpAbs (condHolds .c s) a s)

/-- CALL C,a16 (0xDC), R227. -/
def execCallCA16 (a : Word) (s : State) : StepOutcome := .next (callAbs (condHolds .c s) a s)

/-- RST 0x18 (0xDF), R231. -/
def execRst18 (s : State) : StepOutcome := .next (restartAt 0x0018#16 s)

/-- RST 0x20 (0xE7), R231. -/
def execRst20 (s : State) : StepOutcome := .next (restartAt 0x0020#16 s)

/-- JP HL (0xE9), R223. -/
def execJpHl (s : State) : StepOutcome := .next (jumpTo (regHL s) (advance 1 s))

/-- RST 0x28 (0xEF), R231. -/
def execRst28 (s : State) : StepOutcome := .next (restartAt 0x0028#16 s)

/-- RST 0x30 (0xF7), R231. -/
def execRst30 (s : State) : StepOutcome := .next (restartAt 0x0030#16 s)

/-- RST 0x38 (0xFF), R231. -/
def execRst38 (s : State) : StepOutcome := .next (restartAt 0x0038#16 s)

end Sys2Proof.Machine
end

