-- ==== Sys2Proof/Machine/Loads.lean ====
section
/-! DEFINITION. Loads, stores and stack (spec 40_loads R121 to R147): the shared operations, then one meaning per instruction. A meaning starts
with PC at the opcode and leaves it past the instruction (10_state R27, R28). No load writes a flag but POP AF. -/

namespace Sys2Proof.Machine

/-- LD r,r' (R121). -/
def loadReg (dst r : Reg8) (s : State) : State := setReg dst (getReg r s) (advance 1 s)

/-- LD r,n8 (R122). -/
def loadRegImm (dst : Reg8) (n : Byte) (s : State) : State := setReg dst n (advance 2 s)

/-- LD r,(HL): the byte is read with the old HL (R123). -/
def loadRegIndHl (dst : Reg8) (s : State) : State := setReg dst (readByte s (regHL s)) (advance 1 s)

/-- LD (HL),r (R124). -/
def storeIndHl (r : Reg8) (s : State) : State := writeByte (advance 1 s) (regHL s) (getReg r s)

/-- LD A from an address, by an instruction of `len` bytes (R126, R127, R134, R136, R138). -/
def loadA (len : Nat) (a : Word) (s : State) : State := setReg .a (readByte s a) (advance len s)

/-- LD A to an address, by an instruction of `len` bytes (R128, R129, R135, R137, R139). -/
def storeA (len : Nat) (a : Word) (s : State) : State := writeByte (advance len s) a s.cpu.a

/-- LD A,(HL+) and LD A,(HL-): load, then HL + `delta`, modulo 2^16; 0xFFFF is -1 (R130, R131). -/
def loadAStep (delta : Word) (s : State) : State := setHL (regHL s + delta) (loadA 1 (regHL s) s)

/-- LD (HL+),A and LD (HL-),A: store, then HL + `delta`, modulo 2^16; 0xFFFF is -1 (R132, R133). -/
def storeAStep (delta : Word) (s : State) : State := setHL (regHL s + delta) (storeA 1 (regHL s) s)

/-- LD rr,n16 (R140). -/
def loadPairImm (rr : Reg16) (n : Word) (s : State) : State := setPair rr n (advance 3 s)

/-- PUSH rr (R145). -/
def pushPair (q : StackPair) (s : State) : State := push16 (getStackPair q s) (advance 1 s)

/-- POP rr (R146, R147). -/
def popPair (q : StackPair) (s : State) : State := setStackPair q (popValue s) (dropWord (advance 1 s))

/-- LD BC,n16 (0x01), R140. -/
def execLdBcN16 (n : Word) (s : State) : StepOutcome := .next (loadPairImm .bc n s)

/-- LD (BC),A (0x02), R128. -/
def execLdIndBcA (s : State) : StepOutcome := .next (storeA 1 (regBC s) s)

/-- LD B,n8 (0x06), R122. -/
def execLdBN8 (n : Byte) (s : State) : StepOutcome := .next (loadRegImm .b n s)

/-- LD (a16),SP (0x08), R141. -/
def execLdIndA16Sp (a : Word) (s : State) : StepOutcome := .next (writeWord (advance 3 s) a s.cpu.sp)

/-- LD A,(BC) (0x0A), R126. -/
def execLdAIndBc (s : State) : StepOutcome := .next (loadA 1 (regBC s) s)

/-- LD C,n8 (0x0E), R122. -/
def execLdCN8 (n : Byte) (s : State) : StepOutcome := .next (loadRegImm .c n s)

/-- LD DE,n16 (0x11), R140. -/
def execLdDeN16 (n : Word) (s : State) : StepOutcome := .next (loadPairImm .de n s)

/-- LD (DE),A (0x12), R129. -/
def execLdIndDeA (s : State) : StepOutcome := .next (storeA 1 (regDE s) s)

/-- LD D,n8 (0x16), R122. -/
def execLdDN8 (n : Byte) (s : State) : StepOutcome := .next (loadRegImm .d n s)

/-- LD A,(DE) (0x1A), R127. -/
def execLdAIndDe (s : State) : StepOutcome := .next (loadA 1 (regDE s) s)

/-- LD E,n8 (0x1E), R122. -/
def execLdEN8 (n : Byte) (s : State) : StepOutcome := .next (loadRegImm .e n s)

/-- LD HL,n16 (0x21), R140. -/
def execLdHlN16 (n : Word) (s : State) : StepOutcome := .next (loadPairImm .hl n s)

/-- LD (HL+),A (0x22), R132. -/
def execLdIndHlIncA (s : State) : StepOutcome := .next (storeAStep 1#16 s)

/-- LD H,n8 (0x26), R122. -/
def execLdHN8 (n : Byte) (s : State) : StepOutcome := .next (loadRegImm .h n s)

/-- LD A,(HL+) (0x2A), R130. -/
def execLdAIndHlInc (s : State) : StepOutcome := .next (loadAStep 1#16 s)

/-- LD L,n8 (0x2E), R122. -/
def execLdLN8 (n : Byte) (s : State) : StepOutcome := .next (loadRegImm .l n s)

/-- LD SP,n16 (0x31), R140. -/
def execLdSpN16 (n : Word) (s : State) : StepOutcome := .next (loadPairImm .sp n s)

/-- LD (HL-),A (0x32), R133. -/
def execLdIndHlDecA (s : State) : StepOutcome := .next (storeAStep 0xFFFF#16 s)

/-- LD (HL),n8 (0x36), R125. -/
def execLdIndHlN8 (n : Byte) (s : State) : StepOutcome := .next (writeByte (advance 2 s) (regHL s) n)

/-- LD A,(HL-) (0x3A), R131. -/
def execLdAIndHlDec (s : State) : StepOutcome := .next (loadAStep 0xFFFF#16 s)

/-- LD A,n8 (0x3E), R122. -/
def execLdAN8 (n : Byte) (s : State) : StepOutcome := .next (loadRegImm .a n s)

/-- LD B,B (0x40), R121. -/
def execLdBB (s : State) : StepOutcome := .next (loadReg .b .b s)

/-- LD B,C (0x41), R121. -/
def execLdBC (s : State) : StepOutcome := .next (loadReg .b .c s)

/-- LD B,D (0x42), R121. -/
def execLdBD (s : State) : StepOutcome := .next (loadReg .b .d s)

/-- LD B,E (0x43), R121. -/
def execLdBE (s : State) : StepOutcome := .next (loadReg .b .e s)

/-- LD B,H (0x44), R121. -/
def execLdBH (s : State) : StepOutcome := .next (loadReg .b .h s)

/-- LD B,L (0x45), R121. -/
def execLdBL (s : State) : StepOutcome := .next (loadReg .b .l s)

/-- LD B,(HL) (0x46), R123. -/
def execLdBIndHl (s : State) : StepOutcome := .next (loadRegIndHl .b s)

/-- LD B,A (0x47), R121. -/
def execLdBA (s : State) : StepOutcome := .next (loadReg .b .a s)

/-- LD C,B (0x48), R121. -/
def execLdCB (s : State) : StepOutcome := .next (loadReg .c .b s)

/-- LD C,C (0x49), R121. -/
def execLdCC (s : State) : StepOutcome := .next (loadReg .c .c s)

/-- LD C,D (0x4A), R121. -/
def execLdCD (s : State) : StepOutcome := .next (loadReg .c .d s)

/-- LD C,E (0x4B), R121. -/
def execLdCE (s : State) : StepOutcome := .next (loadReg .c .e s)

/-- LD C,H (0x4C), R121. -/
def execLdCH (s : State) : StepOutcome := .next (loadReg .c .h s)

/-- LD C,L (0x4D), R121. -/
def execLdCL (s : State) : StepOutcome := .next (loadReg .c .l s)

/-- LD C,(HL) (0x4E), R123. -/
def execLdCIndHl (s : State) : StepOutcome := .next (loadRegIndHl .c s)

/-- LD C,A (0x4F), R121. -/
def execLdCA (s : State) : StepOutcome := .next (loadReg .c .a s)

/-- LD D,B (0x50), R121. -/
def execLdDB (s : State) : StepOutcome := .next (loadReg .d .b s)

/-- LD D,C (0x51), R121. -/
def execLdDC (s : State) : StepOutcome := .next (loadReg .d .c s)

/-- LD D,D (0x52), R121. -/
def execLdDD (s : State) : StepOutcome := .next (loadReg .d .d s)

/-- LD D,E (0x53), R121. -/
def execLdDE (s : State) : StepOutcome := .next (loadReg .d .e s)

/-- LD D,H (0x54), R121. -/
def execLdDH (s : State) : StepOutcome := .next (loadReg .d .h s)

/-- LD D,L (0x55), R121. -/
def execLdDL (s : State) : StepOutcome := .next (loadReg .d .l s)

/-- LD D,(HL) (0x56), R123. -/
def execLdDIndHl (s : State) : StepOutcome := .next (loadRegIndHl .d s)

/-- LD D,A (0x57), R121. -/
def execLdDA (s : State) : StepOutcome := .next (loadReg .d .a s)

/-- LD E,B (0x58), R121. -/
def execLdEB (s : State) : StepOutcome := .next (loadReg .e .b s)

/-- LD E,C (0x59), R121. -/
def execLdEC (s : State) : StepOutcome := .next (loadReg .e .c s)

/-- LD E,D (0x5A), R121. -/
def execLdED (s : State) : StepOutcome := .next (loadReg .e .d s)

/-- LD E,E (0x5B), R121. -/
def execLdEE (s : State) : StepOutcome := .next (loadReg .e .e s)

/-- LD E,H (0x5C), R121. -/
def execLdEH (s : State) : StepOutcome := .next (loadReg .e .h s)

/-- LD E,L (0x5D), R121. -/
def execLdEL (s : State) : StepOutcome := .next (loadReg .e .l s)

/-- LD E,(HL) (0x5E), R123. -/
def execLdEIndHl (s : State) : StepOutcome := .next (loadRegIndHl .e s)

/-- LD E,A (0x5F), R121. -/
def execLdEA (s : State) : StepOutcome := .next (loadReg .e .a s)

/-- LD H,B (0x60), R121. -/
def execLdHB (s : State) : StepOutcome := .next (loadReg .h .b s)

/-- LD H,C (0x61), R121. -/
def execLdHC (s : State) : StepOutcome := .next (loadReg .h .c s)

/-- LD H,D (0x62), R121. -/
def execLdHD (s : State) : StepOutcome := .next (loadReg .h .d s)

/-- LD H,E (0x63), R121. -/
def execLdHE (s : State) : StepOutcome := .next (loadReg .h .e s)

/-- LD H,H (0x64), R121. -/
def execLdHH (s : State) : StepOutcome := .next (loadReg .h .h s)

/-- LD H,L (0x65), R121. -/
def execLdHL (s : State) : StepOutcome := .next (loadReg .h .l s)

/-- LD H,(HL) (0x66), R123. -/
def execLdHIndHl (s : State) : StepOutcome := .next (loadRegIndHl .h s)

/-- LD H,A (0x67), R121. -/
def execLdHA (s : State) : StepOutcome := .next (loadReg .h .a s)

/-- LD L,B (0x68), R121. -/
def execLdLB (s : State) : StepOutcome := .next (loadReg .l .b s)

/-- LD L,C (0x69), R121. -/
def execLdLC (s : State) : StepOutcome := .next (loadReg .l .c s)

/-- LD L,D (0x6A), R121. -/
def execLdLD (s : State) : StepOutcome := .next (loadReg .l .d s)

/-- LD L,E (0x6B), R121. -/
def execLdLE (s : State) : StepOutcome := .next (loadReg .l .e s)

/-- LD L,H (0x6C), R121. -/
def execLdLH (s : State) : StepOutcome := .next (loadReg .l .h s)

/-- LD L,L (0x6D), R121. -/
def execLdLL (s : State) : StepOutcome := .next (loadReg .l .l s)

/-- LD L,(HL) (0x6E), R123. -/
def execLdLIndHl (s : State) : StepOutcome := .next (loadRegIndHl .l s)

/-- LD L,A (0x6F), R121. -/
def execLdLA (s : State) : StepOutcome := .next (loadReg .l .a s)

/-- LD (HL),B (0x70), R124. -/
def execLdIndHlB (s : State) : StepOutcome := .next (storeIndHl .b s)

/-- LD (HL),C (0x71), R124. -/
def execLdIndHlC (s : State) : StepOutcome := .next (storeIndHl .c s)

/-- LD (HL),D (0x72), R124. -/
def execLdIndHlD (s : State) : StepOutcome := .next (storeIndHl .d s)

/-- LD (HL),E (0x73), R124. -/
def execLdIndHlE (s : State) : StepOutcome := .next (storeIndHl .e s)

/-- LD (HL),H (0x74), R124. -/
def execLdIndHlH (s : State) : StepOutcome := .next (storeIndHl .h s)

/-- LD (HL),L (0x75), R124. -/
def execLdIndHlL (s : State) : StepOutcome := .next (storeIndHl .l s)

/-- LD (HL),A (0x77), R124. -/
def execLdIndHlA (s : State) : StepOutcome := .next (storeIndHl .a s)

/-- LD A,B (0x78), R121. -/
def execLdAB (s : State) : StepOutcome := .next (loadReg .a .b s)

/-- LD A,C (0x79), R121. -/
def execLdAC (s : State) : StepOutcome := .next (loadReg .a .c s)

/-- LD A,D (0x7A), R121. -/
def execLdAD (s : State) : StepOutcome := .next (loadReg .a .d s)

/-- LD A,E (0x7B), R121. -/
def execLdAE (s : State) : StepOutcome := .next (loadReg .a .e s)

/-- LD A,H (0x7C), R121. -/
def execLdAH (s : State) : StepOutcome := .next (loadReg .a .h s)

/-- LD A,L (0x7D), R121. -/
def execLdAL (s : State) : StepOutcome := .next (loadReg .a .l s)

/-- LD A,(HL) (0x7E), R123. -/
def execLdAIndHl (s : State) : StepOutcome := .next (loadRegIndHl .a s)

/-- LD A,A (0x7F), R121. -/
def execLdAA (s : State) : StepOutcome := .next (loadReg .a .a s)

/-- POP BC (0xC1), R146. -/
def execPopBc (s : State) : StepOutcome := .next (popPair .bc s)

/-- PUSH BC (0xC5), R145. -/
def execPushBc (s : State) : StepOutcome := .next (pushPair .bc s)

/-- POP DE (0xD1), R146. -/
def execPopDe (s : State) : StepOutcome := .next (popPair .de s)

/-- PUSH DE (0xD5), R145. -/
def execPushDe (s : State) : StepOutcome := .next (pushPair .de s)

/-- LDH (a8),A (0xE0), R137. -/
def execLdhIndA8A (a8 : Byte) (s : State) : StepOutcome := .next (storeA 2 (ioPageAddress a8) s)

/-- POP HL (0xE1), R146. -/
def execPopHl (s : State) : StepOutcome := .next (popPair .hl s)

/-- LD (C),A (0xE2), R139. -/
def execLdIndCA (s : State) : StepOutcome := .next (storeA 1 (ioPageAddress s.cpu.c) s)

/-- PUSH HL (0xE5), R145. -/
def execPushHl (s : State) : StepOutcome := .next (pushPair .hl s)

/-- LD (a16),A (0xEA), R135. -/
def execLdIndA16A (a : Word) (s : State) : StepOutcome := .next (storeA 3 a s)

/-- LDH A,(a8) (0xF0), R136. -/
def execLdhAIndA8 (a8 : Byte) (s : State) : StepOutcome := .next (loadA 2 (ioPageAddress a8) s)

/-- POP AF (0xF1), R147. -/
def execPopAf (s : State) : StepOutcome := .next (popPair .af s)

/-- LD A,(C) (0xF2), R138. -/
def execLdAIndC (s : State) : StepOutcome := .next (loadA 1 (ioPageAddress s.cpu.c) s)

/-- PUSH AF (0xF5), R145. -/
def execPushAf (s : State) : StepOutcome := .next (pushPair .af s)

/-- LD SP,HL (0xF9), R142. -/
def execLdSpHl (s : State) : StepOutcome := .next (setSp (regHL s) (advance 1 s))

/-- LD A,(a16) (0xFA), R134. -/
def execLdAIndA16 (a : Word) (s : State) : StepOutcome := .next (loadA 3 a s)

end Sys2Proof.Machine
end

