-- ==== Sys2Proof/Machine/Misc.lean ====
section
/-! DEFINITION. Miscellaneous and CPU-control instructions (spec 45_misc R270 to R275): the shared operations, then one meaning per instruction. -/

namespace Sys2Proof.Machine

/-- STOP by `stop_mode`: nop1 leaves the second byte to be fetched as an opcode, nop2 and halt consume it, halt also halts (R272, D16). -/
def stopCore (s : State) : State :=
  match s.params.stopMode with
  | .nop1 => advance 1 s
  | .nop2 => advance 2 s
  | .halt => enterHalt (advance 2 s)

/-- NOP (0x00), R270. -/
def execNop (s : State) : StepOutcome := .next (advance 1 s)

/-- STOP (0x10), R272. -/
def execStop (s : State) : StepOutcome := .next (stopCore s)

/-- HALT (0x76), R271. -/
def execHalt (s : State) : StepOutcome := .next (enterHalt (advance 1 s))

/-- Unrecognized opcode 0xD3: a one-byte no-op (R275). -/
def execUnrecognizedD3 (s : State) : StepOutcome := .next (advance 1 s)

/-- Unrecognized opcode 0xDB: a one-byte no-op (R275). -/
def execUnrecognizedDB (s : State) : StepOutcome := .next (advance 1 s)

/-- Unrecognized opcode 0xDD: a one-byte no-op (R275). -/
def execUnrecognizedDD (s : State) : StepOutcome := .next (advance 1 s)

/-- Unrecognized opcode 0xE3: a one-byte no-op (R275). -/
def execUnrecognizedE3 (s : State) : StepOutcome := .next (advance 1 s)

/-- Unrecognized opcode 0xE4: a one-byte no-op (R275). -/
def execUnrecognizedE4 (s : State) : StepOutcome := .next (advance 1 s)

/-- Unrecognized opcode 0xEB: a one-byte no-op (R275). -/
def execUnrecognizedEB (s : State) : StepOutcome := .next (advance 1 s)

/-- Unrecognized opcode 0xEC: a one-byte no-op (R275). -/
def execUnrecognizedEC (s : State) : StepOutcome := .next (advance 1 s)

/-- Unrecognized opcode 0xED: a one-byte no-op (R275). -/
def execUnrecognizedED (s : State) : StepOutcome := .next (advance 1 s)

/-- DI (0xF3), R273. -/
def execDi (s : State) : StepOutcome := .next (setIme false (advance 1 s))

/-- Unrecognized opcode 0xF4: a one-byte no-op (R275). -/
def execUnrecognizedF4 (s : State) : StepOutcome := .next (advance 1 s)

/-- EI (0xFB), R274. -/
def execEi (s : State) : StepOutcome := .next (setIme true (advance 1 s))

/-- Unrecognized opcode 0xFC: a one-byte no-op (R275). -/
def execUnrecognizedFC (s : State) : StepOutcome := .next (advance 1 s)

/-- Unrecognized opcode 0xFD: a one-byte no-op (R275). -/
def execUnrecognizedFD (s : State) : StepOutcome := .next (advance 1 s)

end Sys2Proof.Machine
end

