-- ==== Sys2Proof/Machine/Prefixed.lean ====
section
/-! DEFINITION. The prefixed (0xCB) operations (spec 44_prefixed R250 to R261): the shared operations, one meaning per instruction, and the bare
prefix (30_encoding R104). -/

namespace Sys2Proof.Machine

/-- A rotate, shift or swap: read once, written once; Z from the result, N = Hf = 0 (R250 to R258). -/
def shiftLoc (op : ShiftOp) (x : Loc) (s : State) : State :=
  let y := shiftByte op (getLoc x s) (flagC s)
  setFlags (decide (y.r = 0#8)) false false y.c (putLoc x y.r (advance 2 s))

/-- BIT b,r: Z = not bit b, N = 0, Hf = 1, Cy unchanged; nothing is written back (R259). -/
def testBit (b : Fin 8) (x : Loc) (s : State) : State :=
  setFlags (!(getLoc x s).getLsbD b.val) false true (flagC s) (advance 2 s)

/-- RES b,r: no flag; writes back even when the bit was 0 (R260). -/
def resetBit (b : Fin 8) (x : Loc) (s : State) : State :=
  putLoc x (getLoc x s &&& ~~~(0x01#8 <<< b.val)) (advance 2 s)

/-- SET b,r: no flag (R261). -/
def setBit (b : Fin 8) (x : Loc) (s : State) : State :=
  putLoc x (getLoc x s ||| (0x01#8 <<< b.val)) (advance 2 s)

/-- The operand field z (30_encoding R92). -/
def locOfField (z : Fin 8) : Loc :=
  match z with
  | 0 => .reg .b
  | 1 => .reg .c
  | 2 => .reg .d
  | 3 => .reg .e
  | 4 => .reg .h
  | 5 => .reg .l
  | 6 => .indHl
  | 7 => .reg .a

/-- The operation field y of the rotate and shift group (30_encoding R104). -/
def shiftOfField (y : Fin 8) : ShiftOp :=
  match y with
  | 0 => .rlc
  | 1 => .rrc
  | 2 => .rl
  | 3 => .rr
  | 4 => .sla
  | 5 => .sra
  | 6 => .swap
  | 7 => .srl

/-- A 3-bit field of an opcode byte, from bit `lowest` up (30_encoding R91). -/
def field3 (op : Byte) (lowest : Nat) : Fin 8 := Fin.ofNat 8 (op.toNat >>> lowest)

/-- `execute_cb(cb)` by its fields x, y and z (30_encoding R104, R110; 44_prefixed R250). -/
def executeCb (cb : Byte) (s : State) : State :=
  match cb.toNat >>> 6 with
  | 0 => shiftLoc (shiftOfField (field3 cb 3)) (locOfField (field3 cb 0)) s
  | 1 => testBit (field3 cb 3) (locOfField (field3 cb 0)) s
  | 2 => resetBit (field3 cb 3) (locOfField (field3 cb 0)) s
  | _ => setBit (field3 cb 3) (locOfField (field3 cb 0)) s

/-- The bare prefix 0xCB: fetch one more byte and execute the CB instruction it names (30_encoding R104, R110). -/
def execPrefixCb (s : State) : StepOutcome := .next (executeCb (readByte s (s.cpu.pc + 1#16)) s)

/-- RLC B (CB 00), R251. -/
def execRlcB (s : State) : StepOutcome := .next (shiftLoc .rlc (.reg .b) s)

/-- RLC C (CB 01), R251. -/
def execRlcC (s : State) : StepOutcome := .next (shiftLoc .rlc (.reg .c) s)

/-- RLC D (CB 02), R251. -/
def execRlcD (s : State) : StepOutcome := .next (shiftLoc .rlc (.reg .d) s)

/-- RLC E (CB 03), R251. -/
def execRlcE (s : State) : StepOutcome := .next (shiftLoc .rlc (.reg .e) s)

/-- RLC H (CB 04), R251. -/
def execRlcH (s : State) : StepOutcome := .next (shiftLoc .rlc (.reg .h) s)

/-- RLC L (CB 05), R251. -/
def execRlcL (s : State) : StepOutcome := .next (shiftLoc .rlc (.reg .l) s)

/-- RLC (HL) (CB 06), R251. -/
def execRlcIndHl (s : State) : StepOutcome := .next (shiftLoc .rlc .indHl s)

/-- RLC A (CB 07), R251. -/
def execRlcA (s : State) : StepOutcome := .next (shiftLoc .rlc (.reg .a) s)

/-- RRC B (CB 08), R252. -/
def execRrcB (s : State) : StepOutcome := .next (shiftLoc .rrc (.reg .b) s)

/-- RRC C (CB 09), R252. -/
def execRrcC (s : State) : StepOutcome := .next (shiftLoc .rrc (.reg .c) s)

/-- RRC D (CB 0A), R252. -/
def execRrcD (s : State) : StepOutcome := .next (shiftLoc .rrc (.reg .d) s)

/-- RRC E (CB 0B), R252. -/
def execRrcE (s : State) : StepOutcome := .next (shiftLoc .rrc (.reg .e) s)

/-- RRC H (CB 0C), R252. -/
def execRrcH (s : State) : StepOutcome := .next (shiftLoc .rrc (.reg .h) s)

/-- RRC L (CB 0D), R252. -/
def execRrcL (s : State) : StepOutcome := .next (shiftLoc .rrc (.reg .l) s)

/-- RRC (HL) (CB 0E), R252. -/
def execRrcIndHl (s : State) : StepOutcome := .next (shiftLoc .rrc .indHl s)

/-- RRC A (CB 0F), R252. -/
def execRrcA (s : State) : StepOutcome := .next (shiftLoc .rrc (.reg .a) s)

/-- RL B (CB 10), R253. -/
def execRlB (s : State) : StepOutcome := .next (shiftLoc .rl (.reg .b) s)

/-- RL C (CB 11), R253. -/
def execRlC (s : State) : StepOutcome := .next (shiftLoc .rl (.reg .c) s)

/-- RL D (CB 12), R253. -/
def execRlD (s : State) : StepOutcome := .next (shiftLoc .rl (.reg .d) s)

/-- RL E (CB 13), R253. -/
def execRlE (s : State) : StepOutcome := .next (shiftLoc .rl (.reg .e) s)

/-- RL H (CB 14), R253. -/
def execRlH (s : State) : StepOutcome := .next (shiftLoc .rl (.reg .h) s)

/-- RL L (CB 15), R253. -/
def execRlL (s : State) : StepOutcome := .next (shiftLoc .rl (.reg .l) s)

/-- RL (HL) (CB 16), R253. -/
def execRlIndHl (s : State) : StepOutcome := .next (shiftLoc .rl .indHl s)

/-- RL A (CB 17), R253. -/
def execRlA (s : State) : StepOutcome := .next (shiftLoc .rl (.reg .a) s)

/-- RR B (CB 18), R254. -/
def execRrB (s : State) : StepOutcome := .next (shiftLoc .rr (.reg .b) s)

/-- RR C (CB 19), R254. -/
def execRrC (s : State) : StepOutcome := .next (shiftLoc .rr (.reg .c) s)

/-- RR D (CB 1A), R254. -/
def execRrD (s : State) : StepOutcome := .next (shiftLoc .rr (.reg .d) s)

/-- RR E (CB 1B), R254. -/
def execRrE (s : State) : StepOutcome := .next (shiftLoc .rr (.reg .e) s)

/-- RR H (CB 1C), R254. -/
def execRrH (s : State) : StepOutcome := .next (shiftLoc .rr (.reg .h) s)

/-- RR L (CB 1D), R254. -/
def execRrL (s : State) : StepOutcome := .next (shiftLoc .rr (.reg .l) s)

/-- RR (HL) (CB 1E), R254. -/
def execRrIndHl (s : State) : StepOutcome := .next (shiftLoc .rr .indHl s)

/-- RR A (CB 1F), R254. -/
def execRrA (s : State) : StepOutcome := .next (shiftLoc .rr (.reg .a) s)

/-- SLA B (CB 20), R255. -/
def execSlaB (s : State) : StepOutcome := .next (shiftLoc .sla (.reg .b) s)

/-- SLA C (CB 21), R255. -/
def execSlaC (s : State) : StepOutcome := .next (shiftLoc .sla (.reg .c) s)

/-- SLA D (CB 22), R255. -/
def execSlaD (s : State) : StepOutcome := .next (shiftLoc .sla (.reg .d) s)

/-- SLA E (CB 23), R255. -/
def execSlaE (s : State) : StepOutcome := .next (shiftLoc .sla (.reg .e) s)

/-- SLA H (CB 24), R255. -/
def execSlaH (s : State) : StepOutcome := .next (shiftLoc .sla (.reg .h) s)

/-- SLA L (CB 25), R255. -/
def execSlaL (s : State) : StepOutcome := .next (shiftLoc .sla (.reg .l) s)

/-- SLA (HL) (CB 26), R255. -/
def execSlaIndHl (s : State) : StepOutcome := .next (shiftLoc .sla .indHl s)

/-- SLA A (CB 27), R255. -/
def execSlaA (s : State) : StepOutcome := .next (shiftLoc .sla (.reg .a) s)

/-- SRA B (CB 28), R256. -/
def execSraB (s : State) : StepOutcome := .next (shiftLoc .sra (.reg .b) s)

/-- SRA C (CB 29), R256. -/
def execSraC (s : State) : StepOutcome := .next (shiftLoc .sra (.reg .c) s)

/-- SRA D (CB 2A), R256. -/
def execSraD (s : State) : StepOutcome := .next (shiftLoc .sra (.reg .d) s)

/-- SRA E (CB 2B), R256. -/
def execSraE (s : State) : StepOutcome := .next (shiftLoc .sra (.reg .e) s)

/-- SRA H (CB 2C), R256. -/
def execSraH (s : State) : StepOutcome := .next (shiftLoc .sra (.reg .h) s)

/-- SRA L (CB 2D), R256. -/
def execSraL (s : State) : StepOutcome := .next (shiftLoc .sra (.reg .l) s)

/-- SRA (HL) (CB 2E), R256. -/
def execSraIndHl (s : State) : StepOutcome := .next (shiftLoc .sra .indHl s)

/-- SRA A (CB 2F), R256. -/
def execSraA (s : State) : StepOutcome := .next (shiftLoc .sra (.reg .a) s)

/-- SWAP B (CB 30), R257. -/
def execSwapB (s : State) : StepOutcome := .next (shiftLoc .swap (.reg .b) s)

/-- SWAP C (CB 31), R257. -/
def execSwapC (s : State) : StepOutcome := .next (shiftLoc .swap (.reg .c) s)

/-- SWAP D (CB 32), R257. -/
def execSwapD (s : State) : StepOutcome := .next (shiftLoc .swap (.reg .d) s)

/-- SWAP E (CB 33), R257. -/
def execSwapE (s : State) : StepOutcome := .next (shiftLoc .swap (.reg .e) s)

/-- SWAP H (CB 34), R257. -/
def execSwapH (s : State) : StepOutcome := .next (shiftLoc .swap (.reg .h) s)

/-- SWAP L (CB 35), R257. -/
def execSwapL (s : State) : StepOutcome := .next (shiftLoc .swap (.reg .l) s)

/-- SWAP (HL) (CB 36), R257. -/
def execSwapIndHl (s : State) : StepOutcome := .next (shiftLoc .swap .indHl s)

/-- SWAP A (CB 37), R257. -/
def execSwapA (s : State) : StepOutcome := .next (shiftLoc .swap (.reg .a) s)

/-- SRL B (CB 38), R258. -/
def execSrlB (s : State) : StepOutcome := .next (shiftLoc .srl (.reg .b) s)

/-- SRL C (CB 39), R258. -/
def execSrlC (s : State) : StepOutcome := .next (shiftLoc .srl (.reg .c) s)

/-- SRL D (CB 3A), R258. -/
def execSrlD (s : State) : StepOutcome := .next (shiftLoc .srl (.reg .d) s)

/-- SRL E (CB 3B), R258. -/
def execSrlE (s : State) : StepOutcome := .next (shiftLoc .srl (.reg .e) s)

/-- SRL H (CB 3C), R258. -/
def execSrlH (s : State) : StepOutcome := .next (shiftLoc .srl (.reg .h) s)

/-- SRL L (CB 3D), R258. -/
def execSrlL (s : State) : StepOutcome := .next (shiftLoc .srl (.reg .l) s)

/-- SRL (HL) (CB 3E), R258. -/
def execSrlIndHl (s : State) : StepOutcome := .next (shiftLoc .srl .indHl s)

/-- SRL A (CB 3F), R258. -/
def execSrlA (s : State) : StepOutcome := .next (shiftLoc .srl (.reg .a) s)

/-- BIT 0,B (CB 40), R259. -/
def execBit0B (s : State) : StepOutcome := .next (testBit 0 (.reg .b) s)

/-- BIT 0,C (CB 41), R259. -/
def execBit0C (s : State) : StepOutcome := .next (testBit 0 (.reg .c) s)

/-- BIT 0,D (CB 42), R259. -/
def execBit0D (s : State) : StepOutcome := .next (testBit 0 (.reg .d) s)

/-- BIT 0,E (CB 43), R259. -/
def execBit0E (s : State) : StepOutcome := .next (testBit 0 (.reg .e) s)

/-- BIT 0,H (CB 44), R259. -/
def execBit0H (s : State) : StepOutcome := .next (testBit 0 (.reg .h) s)

/-- BIT 0,L (CB 45), R259. -/
def execBit0L (s : State) : StepOutcome := .next (testBit 0 (.reg .l) s)

/-- BIT 0,(HL) (CB 46), R259. -/
def execBit0IndHl (s : State) : StepOutcome := .next (testBit 0 .indHl s)

/-- BIT 0,A (CB 47), R259. -/
def execBit0A (s : State) : StepOutcome := .next (testBit 0 (.reg .a) s)

/-- BIT 1,B (CB 48), R259. -/
def execBit1B (s : State) : StepOutcome := .next (testBit 1 (.reg .b) s)

/-- BIT 1,C (CB 49), R259. -/
def execBit1C (s : State) : StepOutcome := .next (testBit 1 (.reg .c) s)

/-- BIT 1,D (CB 4A), R259. -/
def execBit1D (s : State) : StepOutcome := .next (testBit 1 (.reg .d) s)

/-- BIT 1,E (CB 4B), R259. -/
def execBit1E (s : State) : StepOutcome := .next (testBit 1 (.reg .e) s)

/-- BIT 1,H (CB 4C), R259. -/
def execBit1H (s : State) : StepOutcome := .next (testBit 1 (.reg .h) s)

/-- BIT 1,L (CB 4D), R259. -/
def execBit1L (s : State) : StepOutcome := .next (testBit 1 (.reg .l) s)

/-- BIT 1,(HL) (CB 4E), R259. -/
def execBit1IndHl (s : State) : StepOutcome := .next (testBit 1 .indHl s)

/-- BIT 1,A (CB 4F), R259. -/
def execBit1A (s : State) : StepOutcome := .next (testBit 1 (.reg .a) s)

/-- BIT 2,B (CB 50), R259. -/
def execBit2B (s : State) : StepOutcome := .next (testBit 2 (.reg .b) s)

/-- BIT 2,C (CB 51), R259. -/
def execBit2C (s : State) : StepOutcome := .next (testBit 2 (.reg .c) s)

/-- BIT 2,D (CB 52), R259. -/
def execBit2D (s : State) : StepOutcome := .next (testBit 2 (.reg .d) s)

/-- BIT 2,E (CB 53), R259. -/
def execBit2E (s : State) : StepOutcome := .next (testBit 2 (.reg .e) s)

/-- BIT 2,H (CB 54), R259. -/
def execBit2H (s : State) : StepOutcome := .next (testBit 2 (.reg .h) s)

/-- BIT 2,L (CB 55), R259. -/
def execBit2L (s : State) : StepOutcome := .next (testBit 2 (.reg .l) s)

/-- BIT 2,(HL) (CB 56), R259. -/
def execBit2IndHl (s : State) : StepOutcome := .next (testBit 2 .indHl s)

/-- BIT 2,A (CB 57), R259. -/
def execBit2A (s : State) : StepOutcome := .next (testBit 2 (.reg .a) s)

/-- BIT 3,B (CB 58), R259. -/
def execBit3B (s : State) : StepOutcome := .next (testBit 3 (.reg .b) s)

/-- BIT 3,C (CB 59), R259. -/
def execBit3C (s : State) : StepOutcome := .next (testBit 3 (.reg .c) s)

/-- BIT 3,D (CB 5A), R259. -/
def execBit3D (s : State) : StepOutcome := .next (testBit 3 (.reg .d) s)

/-- BIT 3,E (CB 5B), R259. -/
def execBit3E (s : State) : StepOutcome := .next (testBit 3 (.reg .e) s)

/-- BIT 3,H (CB 5C), R259. -/
def execBit3H (s : State) : StepOutcome := .next (testBit 3 (.reg .h) s)

/-- BIT 3,L (CB 5D), R259. -/
def execBit3L (s : State) : StepOutcome := .next (testBit 3 (.reg .l) s)

/-- BIT 3,(HL) (CB 5E), R259. -/
def execBit3IndHl (s : State) : StepOutcome := .next (testBit 3 .indHl s)

/-- BIT 3,A (CB 5F), R259. -/
def execBit3A (s : State) : StepOutcome := .next (testBit 3 (.reg .a) s)

/-- BIT 4,B (CB 60), R259. -/
def execBit4B (s : State) : StepOutcome := .next (testBit 4 (.reg .b) s)

/-- BIT 4,C (CB 61), R259. -/
def execBit4C (s : State) : StepOutcome := .next (testBit 4 (.reg .c) s)

/-- BIT 4,D (CB 62), R259. -/
def execBit4D (s : State) : StepOutcome := .next (testBit 4 (.reg .d) s)

/-- BIT 4,E (CB 63), R259. -/
def execBit4E (s : State) : StepOutcome := .next (testBit 4 (.reg .e) s)

/-- BIT 4,H (CB 64), R259. -/
def execBit4H (s : State) : StepOutcome := .next (testBit 4 (.reg .h) s)

/-- BIT 4,L (CB 65), R259. -/
def execBit4L (s : State) : StepOutcome := .next (testBit 4 (.reg .l) s)

/-- BIT 4,(HL) (CB 66), R259. -/
def execBit4IndHl (s : State) : StepOutcome := .next (testBit 4 .indHl s)

/-- BIT 4,A (CB 67), R259. -/
def execBit4A (s : State) : StepOutcome := .next (testBit 4 (.reg .a) s)

/-- BIT 5,B (CB 68), R259. -/
def execBit5B (s : State) : StepOutcome := .next (testBit 5 (.reg .b) s)

/-- BIT 5,C (CB 69), R259. -/
def execBit5C (s : State) : StepOutcome := .next (testBit 5 (.reg .c) s)

/-- BIT 5,D (CB 6A), R259. -/
def execBit5D (s : State) : StepOutcome := .next (testBit 5 (.reg .d) s)

/-- BIT 5,E (CB 6B), R259. -/
def execBit5E (s : State) : StepOutcome := .next (testBit 5 (.reg .e) s)

/-- BIT 5,H (CB 6C), R259. -/
def execBit5H (s : State) : StepOutcome := .next (testBit 5 (.reg .h) s)

/-- BIT 5,L (CB 6D), R259. -/
def execBit5L (s : State) : StepOutcome := .next (testBit 5 (.reg .l) s)

/-- BIT 5,(HL) (CB 6E), R259. -/
def execBit5IndHl (s : State) : StepOutcome := .next (testBit 5 .indHl s)

/-- BIT 5,A (CB 6F), R259. -/
def execBit5A (s : State) : StepOutcome := .next (testBit 5 (.reg .a) s)

/-- BIT 6,B (CB 70), R259. -/
def execBit6B (s : State) : StepOutcome := .next (testBit 6 (.reg .b) s)

/-- BIT 6,C (CB 71), R259. -/
def execBit6C (s : State) : StepOutcome := .next (testBit 6 (.reg .c) s)

/-- BIT 6,D (CB 72), R259. -/
def execBit6D (s : State) : StepOutcome := .next (testBit 6 (.reg .d) s)

/-- BIT 6,E (CB 73), R259. -/
def execBit6E (s : State) : StepOutcome := .next (testBit 6 (.reg .e) s)

/-- BIT 6,H (CB 74), R259. -/
def execBit6H (s : State) : StepOutcome := .next (testBit 6 (.reg .h) s)

/-- BIT 6,L (CB 75), R259. -/
def execBit6L (s : State) : StepOutcome := .next (testBit 6 (.reg .l) s)

/-- BIT 6,(HL) (CB 76), R259. -/
def execBit6IndHl (s : State) : StepOutcome := .next (testBit 6 .indHl s)

/-- BIT 6,A (CB 77), R259. -/
def execBit6A (s : State) : StepOutcome := .next (testBit 6 (.reg .a) s)

/-- BIT 7,B (CB 78), R259. -/
def execBit7B (s : State) : StepOutcome := .next (testBit 7 (.reg .b) s)

/-- BIT 7,C (CB 79), R259. -/
def execBit7C (s : State) : StepOutcome := .next (testBit 7 (.reg .c) s)

/-- BIT 7,D (CB 7A), R259. -/
def execBit7D (s : State) : StepOutcome := .next (testBit 7 (.reg .d) s)

/-- BIT 7,E (CB 7B), R259. -/
def execBit7E (s : State) : StepOutcome := .next (testBit 7 (.reg .e) s)

/-- BIT 7,H (CB 7C), R259. -/
def execBit7H (s : State) : StepOutcome := .next (testBit 7 (.reg .h) s)

/-- BIT 7,L (CB 7D), R259. -/
def execBit7L (s : State) : StepOutcome := .next (testBit 7 (.reg .l) s)

/-- BIT 7,(HL) (CB 7E), R259. -/
def execBit7IndHl (s : State) : StepOutcome := .next (testBit 7 .indHl s)

/-- BIT 7,A (CB 7F), R259. -/
def execBit7A (s : State) : StepOutcome := .next (testBit 7 (.reg .a) s)

/-- RES 0,B (CB 80), R260. -/
def execRes0B (s : State) : StepOutcome := .next (resetBit 0 (.reg .b) s)

/-- RES 0,C (CB 81), R260. -/
def execRes0C (s : State) : StepOutcome := .next (resetBit 0 (.reg .c) s)

/-- RES 0,D (CB 82), R260. -/
def execRes0D (s : State) : StepOutcome := .next (resetBit 0 (.reg .d) s)

/-- RES 0,E (CB 83), R260. -/
def execRes0E (s : State) : StepOutcome := .next (resetBit 0 (.reg .e) s)

/-- RES 0,H (CB 84), R260. -/
def execRes0H (s : State) : StepOutcome := .next (resetBit 0 (.reg .h) s)

/-- RES 0,L (CB 85), R260. -/
def execRes0L (s : State) : StepOutcome := .next (resetBit 0 (.reg .l) s)

/-- RES 0,(HL) (CB 86), R260. -/
def execRes0IndHl (s : State) : StepOutcome := .next (resetBit 0 .indHl s)

/-- RES 0,A (CB 87), R260. -/
def execRes0A (s : State) : StepOutcome := .next (resetBit 0 (.reg .a) s)

/-- RES 1,B (CB 88), R260. -/
def execRes1B (s : State) : StepOutcome := .next (resetBit 1 (.reg .b) s)

/-- RES 1,C (CB 89), R260. -/
def execRes1C (s : State) : StepOutcome := .next (resetBit 1 (.reg .c) s)

/-- RES 1,D (CB 8A), R260. -/
def execRes1D (s : State) : StepOutcome := .next (resetBit 1 (.reg .d) s)

/-- RES 1,E (CB 8B), R260. -/
def execRes1E (s : State) : StepOutcome := .next (resetBit 1 (.reg .e) s)

/-- RES 1,H (CB 8C), R260. -/
def execRes1H (s : State) : StepOutcome := .next (resetBit 1 (.reg .h) s)

/-- RES 1,L (CB 8D), R260. -/
def execRes1L (s : State) : StepOutcome := .next (resetBit 1 (.reg .l) s)

/-- RES 1,(HL) (CB 8E), R260. -/
def execRes1IndHl (s : State) : StepOutcome := .next (resetBit 1 .indHl s)

/-- RES 1,A (CB 8F), R260. -/
def execRes1A (s : State) : StepOutcome := .next (resetBit 1 (.reg .a) s)

/-- RES 2,B (CB 90), R260. -/
def execRes2B (s : State) : StepOutcome := .next (resetBit 2 (.reg .b) s)

/-- RES 2,C (CB 91), R260. -/
def execRes2C (s : State) : StepOutcome := .next (resetBit 2 (.reg .c) s)

/-- RES 2,D (CB 92), R260. -/
def execRes2D (s : State) : StepOutcome := .next (resetBit 2 (.reg .d) s)

/-- RES 2,E (CB 93), R260. -/
def execRes2E (s : State) : StepOutcome := .next (resetBit 2 (.reg .e) s)

/-- RES 2,H (CB 94), R260. -/
def execRes2H (s : State) : StepOutcome := .next (resetBit 2 (.reg .h) s)

/-- RES 2,L (CB 95), R260. -/
def execRes2L (s : State) : StepOutcome := .next (resetBit 2 (.reg .l) s)

/-- RES 2,(HL) (CB 96), R260. -/
def execRes2IndHl (s : State) : StepOutcome := .next (resetBit 2 .indHl s)

/-- RES 2,A (CB 97), R260. -/
def execRes2A (s : State) : StepOutcome := .next (resetBit 2 (.reg .a) s)

/-- RES 3,B (CB 98), R260. -/
def execRes3B (s : State) : StepOutcome := .next (resetBit 3 (.reg .b) s)

/-- RES 3,C (CB 99), R260. -/
def execRes3C (s : State) : StepOutcome := .next (resetBit 3 (.reg .c) s)

/-- RES 3,D (CB 9A), R260. -/
def execRes3D (s : State) : StepOutcome := .next (resetBit 3 (.reg .d) s)

/-- RES 3,E (CB 9B), R260. -/
def execRes3E (s : State) : StepOutcome := .next (resetBit 3 (.reg .e) s)

/-- RES 3,H (CB 9C), R260. -/
def execRes3H (s : State) : StepOutcome := .next (resetBit 3 (.reg .h) s)

/-- RES 3,L (CB 9D), R260. -/
def execRes3L (s : State) : StepOutcome := .next (resetBit 3 (.reg .l) s)

/-- RES 3,(HL) (CB 9E), R260. -/
def execRes3IndHl (s : State) : StepOutcome := .next (resetBit 3 .indHl s)

/-- RES 3,A (CB 9F), R260. -/
def execRes3A (s : State) : StepOutcome := .next (resetBit 3 (.reg .a) s)

/-- RES 4,B (CB A0), R260. -/
def execRes4B (s : State) : StepOutcome := .next (resetBit 4 (.reg .b) s)

/-- RES 4,C (CB A1), R260. -/
def execRes4C (s : State) : StepOutcome := .next (resetBit 4 (.reg .c) s)

/-- RES 4,D (CB A2), R260. -/
def execRes4D (s : State) : StepOutcome := .next (resetBit 4 (.reg .d) s)

/-- RES 4,E (CB A3), R260. -/
def execRes4E (s : State) : StepOutcome := .next (resetBit 4 (.reg .e) s)

/-- RES 4,H (CB A4), R260. -/
def execRes4H (s : State) : StepOutcome := .next (resetBit 4 (.reg .h) s)

/-- RES 4,L (CB A5), R260. -/
def execRes4L (s : State) : StepOutcome := .next (resetBit 4 (.reg .l) s)

/-- RES 4,(HL) (CB A6), R260. -/
def execRes4IndHl (s : State) : StepOutcome := .next (resetBit 4 .indHl s)

/-- RES 4,A (CB A7), R260. -/
def execRes4A (s : State) : StepOutcome := .next (resetBit 4 (.reg .a) s)

/-- RES 5,B (CB A8), R260. -/
def execRes5B (s : State) : StepOutcome := .next (resetBit 5 (.reg .b) s)

/-- RES 5,C (CB A9), R260. -/
def execRes5C (s : State) : StepOutcome := .next (resetBit 5 (.reg .c) s)

/-- RES 5,D (CB AA), R260. -/
def execRes5D (s : State) : StepOutcome := .next (resetBit 5 (.reg .d) s)

/-- RES 5,E (CB AB), R260. -/
def execRes5E (s : State) : StepOutcome := .next (resetBit 5 (.reg .e) s)

/-- RES 5,H (CB AC), R260. -/
def execRes5H (s : State) : StepOutcome := .next (resetBit 5 (.reg .h) s)

/-- RES 5,L (CB AD), R260. -/
def execRes5L (s : State) : StepOutcome := .next (resetBit 5 (.reg .l) s)

/-- RES 5,(HL) (CB AE), R260. -/
def execRes5IndHl (s : State) : StepOutcome := .next (resetBit 5 .indHl s)

/-- RES 5,A (CB AF), R260. -/
def execRes5A (s : State) : StepOutcome := .next (resetBit 5 (.reg .a) s)

/-- RES 6,B (CB B0), R260. -/
def execRes6B (s : State) : StepOutcome := .next (resetBit 6 (.reg .b) s)

/-- RES 6,C (CB B1), R260. -/
def execRes6C (s : State) : StepOutcome := .next (resetBit 6 (.reg .c) s)

/-- RES 6,D (CB B2), R260. -/
def execRes6D (s : State) : StepOutcome := .next (resetBit 6 (.reg .d) s)

/-- RES 6,E (CB B3), R260. -/
def execRes6E (s : State) : StepOutcome := .next (resetBit 6 (.reg .e) s)

/-- RES 6,H (CB B4), R260. -/
def execRes6H (s : State) : StepOutcome := .next (resetBit 6 (.reg .h) s)

/-- RES 6,L (CB B5), R260. -/
def execRes6L (s : State) : StepOutcome := .next (resetBit 6 (.reg .l) s)

/-- RES 6,(HL) (CB B6), R260. -/
def execRes6IndHl (s : State) : StepOutcome := .next (resetBit 6 .indHl s)

/-- RES 6,A (CB B7), R260. -/
def execRes6A (s : State) : StepOutcome := .next (resetBit 6 (.reg .a) s)

/-- RES 7,B (CB B8), R260. -/
def execRes7B (s : State) : StepOutcome := .next (resetBit 7 (.reg .b) s)

/-- RES 7,C (CB B9), R260. -/
def execRes7C (s : State) : StepOutcome := .next (resetBit 7 (.reg .c) s)

/-- RES 7,D (CB BA), R260. -/
def execRes7D (s : State) : StepOutcome := .next (resetBit 7 (.reg .d) s)

/-- RES 7,E (CB BB), R260. -/
def execRes7E (s : State) : StepOutcome := .next (resetBit 7 (.reg .e) s)

/-- RES 7,H (CB BC), R260. -/
def execRes7H (s : State) : StepOutcome := .next (resetBit 7 (.reg .h) s)

/-- RES 7,L (CB BD), R260. -/
def execRes7L (s : State) : StepOutcome := .next (resetBit 7 (.reg .l) s)

/-- RES 7,(HL) (CB BE), R260. -/
def execRes7IndHl (s : State) : StepOutcome := .next (resetBit 7 .indHl s)

/-- RES 7,A (CB BF), R260. -/
def execRes7A (s : State) : StepOutcome := .next (resetBit 7 (.reg .a) s)

/-- SET 0,B (CB C0), R261. -/
def execSet0B (s : State) : StepOutcome := .next (setBit 0 (.reg .b) s)

/-- SET 0,C (CB C1), R261. -/
def execSet0C (s : State) : StepOutcome := .next (setBit 0 (.reg .c) s)

/-- SET 0,D (CB C2), R261. -/
def execSet0D (s : State) : StepOutcome := .next (setBit 0 (.reg .d) s)

/-- SET 0,E (CB C3), R261. -/
def execSet0E (s : State) : StepOutcome := .next (setBit 0 (.reg .e) s)

/-- SET 0,H (CB C4), R261. -/
def execSet0H (s : State) : StepOutcome := .next (setBit 0 (.reg .h) s)

/-- SET 0,L (CB C5), R261. -/
def execSet0L (s : State) : StepOutcome := .next (setBit 0 (.reg .l) s)

/-- SET 0,(HL) (CB C6), R261. -/
def execSet0IndHl (s : State) : StepOutcome := .next (setBit 0 .indHl s)

/-- SET 0,A (CB C7), R261. -/
def execSet0A (s : State) : StepOutcome := .next (setBit 0 (.reg .a) s)

/-- SET 1,B (CB C8), R261. -/
def execSet1B (s : State) : StepOutcome := .next (setBit 1 (.reg .b) s)

/-- SET 1,C (CB C9), R261. -/
def execSet1C (s : State) : StepOutcome := .next (setBit 1 (.reg .c) s)

/-- SET 1,D (CB CA), R261. -/
def execSet1D (s : State) : StepOutcome := .next (setBit 1 (.reg .d) s)

/-- SET 1,E (CB CB), R261. -/
def execSet1E (s : State) : StepOutcome := .next (setBit 1 (.reg .e) s)

/-- SET 1,H (CB CC), R261. -/
def execSet1H (s : State) : StepOutcome := .next (setBit 1 (.reg .h) s)

/-- SET 1,L (CB CD), R261. -/
def execSet1L (s : State) : StepOutcome := .next (setBit 1 (.reg .l) s)

/-- SET 1,(HL) (CB CE), R261. -/
def execSet1IndHl (s : State) : StepOutcome := .next (setBit 1 .indHl s)

/-- SET 1,A (CB CF), R261. -/
def execSet1A (s : State) : StepOutcome := .next (setBit 1 (.reg .a) s)

/-- SET 2,B (CB D0), R261. -/
def execSet2B (s : State) : StepOutcome := .next (setBit 2 (.reg .b) s)

/-- SET 2,C (CB D1), R261. -/
def execSet2C (s : State) : StepOutcome := .next (setBit 2 (.reg .c) s)

/-- SET 2,D (CB D2), R261. -/
def execSet2D (s : State) : StepOutcome := .next (setBit 2 (.reg .d) s)

/-- SET 2,E (CB D3), R261. -/
def execSet2E (s : State) : StepOutcome := .next (setBit 2 (.reg .e) s)

/-- SET 2,H (CB D4), R261. -/
def execSet2H (s : State) : StepOutcome := .next (setBit 2 (.reg .h) s)

/-- SET 2,L (CB D5), R261. -/
def execSet2L (s : State) : StepOutcome := .next (setBit 2 (.reg .l) s)

/-- SET 2,(HL) (CB D6), R261. -/
def execSet2IndHl (s : State) : StepOutcome := .next (setBit 2 .indHl s)

/-- SET 2,A (CB D7), R261. -/
def execSet2A (s : State) : StepOutcome := .next (setBit 2 (.reg .a) s)

/-- SET 3,B (CB D8), R261. -/
def execSet3B (s : State) : StepOutcome := .next (setBit 3 (.reg .b) s)

/-- SET 3,C (CB D9), R261. -/
def execSet3C (s : State) : StepOutcome := .next (setBit 3 (.reg .c) s)

/-- SET 3,D (CB DA), R261. -/
def execSet3D (s : State) : StepOutcome := .next (setBit 3 (.reg .d) s)

/-- SET 3,E (CB DB), R261. -/
def execSet3E (s : State) : StepOutcome := .next (setBit 3 (.reg .e) s)

/-- SET 3,H (CB DC), R261. -/
def execSet3H (s : State) : StepOutcome := .next (setBit 3 (.reg .h) s)

/-- SET 3,L (CB DD), R261. -/
def execSet3L (s : State) : StepOutcome := .next (setBit 3 (.reg .l) s)

/-- SET 3,(HL) (CB DE), R261. -/
def execSet3IndHl (s : State) : StepOutcome := .next (setBit 3 .indHl s)

/-- SET 3,A (CB DF), R261. -/
def execSet3A (s : State) : StepOutcome := .next (setBit 3 (.reg .a) s)

/-- SET 4,B (CB E0), R261. -/
def execSet4B (s : State) : StepOutcome := .next (setBit 4 (.reg .b) s)

/-- SET 4,C (CB E1), R261. -/
def execSet4C (s : State) : StepOutcome := .next (setBit 4 (.reg .c) s)

/-- SET 4,D (CB E2), R261. -/
def execSet4D (s : State) : StepOutcome := .next (setBit 4 (.reg .d) s)

/-- SET 4,E (CB E3), R261. -/
def execSet4E (s : State) : StepOutcome := .next (setBit 4 (.reg .e) s)

/-- SET 4,H (CB E4), R261. -/
def execSet4H (s : State) : StepOutcome := .next (setBit 4 (.reg .h) s)

/-- SET 4,L (CB E5), R261. -/
def execSet4L (s : State) : StepOutcome := .next (setBit 4 (.reg .l) s)

/-- SET 4,(HL) (CB E6), R261. -/
def execSet4IndHl (s : State) : StepOutcome := .next (setBit 4 .indHl s)

/-- SET 4,A (CB E7), R261. -/
def execSet4A (s : State) : StepOutcome := .next (setBit 4 (.reg .a) s)

/-- SET 5,B (CB E8), R261. -/
def execSet5B (s : State) : StepOutcome := .next (setBit 5 (.reg .b) s)

/-- SET 5,C (CB E9), R261. -/
def execSet5C (s : State) : StepOutcome := .next (setBit 5 (.reg .c) s)

/-- SET 5,D (CB EA), R261. -/
def execSet5D (s : State) : StepOutcome := .next (setBit 5 (.reg .d) s)

/-- SET 5,E (CB EB), R261. -/
def execSet5E (s : State) : StepOutcome := .next (setBit 5 (.reg .e) s)

/-- SET 5,H (CB EC), R261. -/
def execSet5H (s : State) : StepOutcome := .next (setBit 5 (.reg .h) s)

/-- SET 5,L (CB ED), R261. -/
def execSet5L (s : State) : StepOutcome := .next (setBit 5 (.reg .l) s)

/-- SET 5,(HL) (CB EE), R261. -/
def execSet5IndHl (s : State) : StepOutcome := .next (setBit 5 .indHl s)

/-- SET 5,A (CB EF), R261. -/
def execSet5A (s : State) : StepOutcome := .next (setBit 5 (.reg .a) s)

/-- SET 6,B (CB F0), R261. -/
def execSet6B (s : State) : StepOutcome := .next (setBit 6 (.reg .b) s)

/-- SET 6,C (CB F1), R261. -/
def execSet6C (s : State) : StepOutcome := .next (setBit 6 (.reg .c) s)

/-- SET 6,D (CB F2), R261. -/
def execSet6D (s : State) : StepOutcome := .next (setBit 6 (.reg .d) s)

/-- SET 6,E (CB F3), R261. -/
def execSet6E (s : State) : StepOutcome := .next (setBit 6 (.reg .e) s)

/-- SET 6,H (CB F4), R261. -/
def execSet6H (s : State) : StepOutcome := .next (setBit 6 (.reg .h) s)

/-- SET 6,L (CB F5), R261. -/
def execSet6L (s : State) : StepOutcome := .next (setBit 6 (.reg .l) s)

/-- SET 6,(HL) (CB F6), R261. -/
def execSet6IndHl (s : State) : StepOutcome := .next (setBit 6 .indHl s)

/-- SET 6,A (CB F7), R261. -/
def execSet6A (s : State) : StepOutcome := .next (setBit 6 (.reg .a) s)

/-- SET 7,B (CB F8), R261. -/
def execSet7B (s : State) : StepOutcome := .next (setBit 7 (.reg .b) s)

/-- SET 7,C (CB F9), R261. -/
def execSet7C (s : State) : StepOutcome := .next (setBit 7 (.reg .c) s)

/-- SET 7,D (CB FA), R261. -/
def execSet7D (s : State) : StepOutcome := .next (setBit 7 (.reg .d) s)

/-- SET 7,E (CB FB), R261. -/
def execSet7E (s : State) : StepOutcome := .next (setBit 7 (.reg .e) s)

/-- SET 7,H (CB FC), R261. -/
def execSet7H (s : State) : StepOutcome := .next (setBit 7 (.reg .h) s)

/-- SET 7,L (CB FD), R261. -/
def execSet7L (s : State) : StepOutcome := .next (setBit 7 (.reg .l) s)

/-- SET 7,(HL) (CB FE), R261. -/
def execSet7IndHl (s : State) : StepOutcome := .next (setBit 7 .indHl s)

/-- SET 7,A (CB FF), R261. -/
def execSet7A (s : State) : StepOutcome := .next (setBit 7 (.reg .a) s)

end Sys2Proof.Machine
end

