-- ==== Sys2Proof/WellFormed.lean ====
section
/-! DEFINITION. Which terms of Instr are whole instructions. The immediates have the exact widths of their fields (spec 30_encoding R90, R98), so
every value of them is one the encoding admits; the one term that is no instruction is the bare prefix. -/

namespace Sys2Proof

/-- A whole instruction: "Byte 0xCB is a prefix and not an instruction" (R104). -/
def Instr.wellFormed (i : Instr) : Bool := decide (i ≠ .prefixCb)

end Sys2Proof
end

