-- ==== Sys2Proof/Decode.lean ====
section
/-! DEFINITION. The decoder, total on any bytes, and the encoder, both from the opcode maps of spec 30_encoding (R90 to R107). -/

namespace Sys2Proof

open Sys2Proof.Machine

/-- What an opcode byte opens, by the formats of R90. -/
inductive OpcodeEntry where
  /-- Format op: one byte. -/
  | op (i : Instr)
  /-- Formats op_n8 and op_e8, and STOP with its ignored byte: one more byte. -/
  | byte (mk : Byte → Instr)
  /-- Format op_n16: two more bytes, low byte first (R98). -/
  | word (mk : Word → Instr)
  /-- The byte 0xCB (R104). -/
  | prefixed

/-- Row 0x of the primary map (R103). -/
def primaryRow0 : List OpcodeEntry :=
  [ .op .nop, .word .ldBcN16, .op .ldIndBcA, .op .incBc, .op .incB, .op .decB, .byte .ldBN8, .op .rlca, .word .ldIndA16Sp, .op .addHlBc,
    .op .ldAIndBc, .op .decBc, .op .incC, .op .decC, .byte .ldCN8, .op .rrca ]

/-- Row 1x of the primary map (R103). -/
def primaryRow1 : List OpcodeEntry :=
  [ .byte .stop, .word .ldDeN16, .op .ldIndDeA, .op .incDe, .op .incD, .op .decD, .byte .ldDN8, .op .rla, .byte .jrE8, .op .addHlDe, .op .ldAIndDe,
    .op .decDe, .op .incE, .op .decE, .byte .ldEN8, .op .rra ]

/-- Row 2x of the primary map (R103). -/
def primaryRow2 : List OpcodeEntry :=
  [ .byte .jrNzE8, .word .ldHlN16, .op .ldIndHlIncA, .op .incHl, .op .incH, .op .decH, .byte .ldHN8, .op .daa, .byte .jrZE8, .op .addHlHl,
    .op .ldAIndHlInc, .op .decHl, .op .incL, .op .decL, .byte .ldLN8, .op .cpl ]

/-- Row 3x of the primary map (R103). -/
def primaryRow3 : List OpcodeEntry :=
  [ .byte .jrNcE8, .word .ldSpN16, .op .ldIndHlDecA, .op .incSp, .op .incIndHl, .op .decIndHl, .byte .ldIndHlN8, .op .scf, .byte .jrCE8,
    .op .addHlSp, .op .ldAIndHlDec, .op .decSp, .op .incA, .op .decA, .byte .ldAN8, .op .ccf ]

/-- Row 4x of the primary map (R103). -/
def primaryRow4 : List OpcodeEntry :=
  [ .op .ldBB, .op .ldBC, .op .ldBD, .op .ldBE, .op .ldBH, .op .ldBL, .op .ldBIndHl, .op .ldBA, .op .ldCB, .op .ldCC, .op .ldCD, .op .ldCE,
    .op .ldCH, .op .ldCL, .op .ldCIndHl, .op .ldCA ]

/-- Row 5x of the primary map (R103). -/
def primaryRow5 : List OpcodeEntry :=
  [ .op .ldDB, .op .ldDC, .op .ldDD, .op .ldDE, .op .ldDH, .op .ldDL, .op .ldDIndHl, .op .ldDA, .op .ldEB, .op .ldEC, .op .ldED, .op .ldEE,
    .op .ldEH, .op .ldEL, .op .ldEIndHl, .op .ldEA ]

/-- Row 6x of the primary map (R103). -/
def primaryRow6 : List OpcodeEntry :=
  [ .op .ldHB, .op .ldHC, .op .ldHD, .op .ldHE, .op .ldHH, .op .ldHL, .op .ldHIndHl, .op .ldHA, .op .ldLB, .op .ldLC, .op .ldLD, .op .ldLE,
    .op .ldLH, .op .ldLL, .op .ldLIndHl, .op .ldLA ]

/-- Row 7x of the primary map (R103). -/
def primaryRow7 : List OpcodeEntry :=
  [ .op .ldIndHlB, .op .ldIndHlC, .op .ldIndHlD, .op .ldIndHlE, .op .ldIndHlH, .op .ldIndHlL, .op .halt, .op .ldIndHlA, .op .ldAB, .op .ldAC,
    .op .ldAD, .op .ldAE, .op .ldAH, .op .ldAL, .op .ldAIndHl, .op .ldAA ]

/-- Row 8x of the primary map (R103). -/
def primaryRow8 : List OpcodeEntry :=
  [ .op .addAB, .op .addAC, .op .addAD, .op .addAE, .op .addAH, .op .addAL, .op .addAIndHl, .op .addAA, .op .adcAB, .op .adcAC, .op .adcAD,
    .op .adcAE, .op .adcAH, .op .adcAL, .op .adcAIndHl, .op .adcAA ]

/-- Row 9x of the primary map (R103). -/
def primaryRow9 : List OpcodeEntry :=
  [ .op .subB, .op .subC, .op .subD, .op .subE, .op .subH, .op .subL, .op .subIndHl, .op .subA, .op .sbcAB, .op .sbcAC, .op .sbcAD, .op .sbcAE,
    .op .sbcAH, .op .sbcAL, .op .sbcAIndHl, .op .sbcAA ]

/-- Row Ax of the primary map (R103). -/
def primaryRowA : List OpcodeEntry :=
  [ .op .andB, .op .andC, .op .andD, .op .andE, .op .andH, .op .andL, .op .andIndHl, .op .andA, .op .xorB, .op .xorC, .op .xorD, .op .xorE,
    .op .xorH, .op .xorL, .op .xorIndHl, .op .xorA ]

/-- Row Bx of the primary map (R103). -/
def primaryRowB : List OpcodeEntry :=
  [ .op .orB, .op .orC, .op .orD, .op .orE, .op .orH, .op .orL, .op .orIndHl, .op .orA, .op .cpB, .op .cpC, .op .cpD, .op .cpE, .op .cpH, .op .cpL,
    .op .cpIndHl, .op .cpA ]

/-- Row Cx of the primary map (R103). -/
def primaryRowC : List OpcodeEntry :=
  [ .op .retNz, .op .popBc, .word .jpNzA16, .word .jpA16, .word .callNzA16, .op .pushBc, .byte .addAN8, .op .rst00, .op .retZ, .op .ret,
    .word .jpZA16, .prefixed, .word .callZA16, .word .callA16, .byte .adcAN8, .op .rst08 ]

/-- Row Dx of the primary map (R103). -/
def primaryRowD : List OpcodeEntry :=
  [ .op .retNc, .op .popDe, .word .jpNcA16, .op .unrecognizedD3, .word .callNcA16, .op .pushDe, .byte .subN8, .op .rst10, .op .retC, .op .reti,
    .word .jpCA16, .op .unrecognizedDB, .word .callCA16, .op .unrecognizedDD, .byte .sbcAN8, .op .rst18 ]

/-- Row Ex of the primary map (R103). -/
def primaryRowE : List OpcodeEntry :=
  [ .byte .ldhIndA8A, .op .popHl, .op .ldIndCA, .op .unrecognizedE3, .op .unrecognizedE4, .op .pushHl, .byte .andN8, .op .rst20, .byte .addSpE8,
    .op .jpHl, .word .ldIndA16A, .op .unrecognizedEB, .op .unrecognizedEC, .op .unrecognizedED, .byte .xorN8, .op .rst28 ]

/-- Row Fx of the primary map (R103). -/
def primaryRowF : List OpcodeEntry :=
  [ .byte .ldhAIndA8, .op .popAf, .op .ldAIndC, .op .di, .op .unrecognizedF4, .op .pushAf, .byte .orN8, .op .rst30, .byte .ldHlSpE8, .op .ldSpHl,
    .word .ldAIndA16, .op .ei, .op .unrecognizedFC, .op .unrecognizedFD, .byte .cpN8, .op .rst38 ]

/-- The primary map, one row for each high nibble (R103). -/
def primaryRows : List (List OpcodeEntry) :=
  [ primaryRow0, primaryRow1, primaryRow2, primaryRow3, primaryRow4, primaryRow5, primaryRow6, primaryRow7,
    primaryRow8, primaryRow9, primaryRowA, primaryRowB, primaryRowC, primaryRowD, primaryRowE, primaryRowF ]

/-- Row 0x of the CB map (R104). -/
def cbRow0 : List Instr :=
  [ .rlcB, .rlcC, .rlcD, .rlcE, .rlcH, .rlcL, .rlcIndHl, .rlcA, .rrcB, .rrcC, .rrcD, .rrcE, .rrcH, .rrcL, .rrcIndHl, .rrcA ]

/-- Row 1x of the CB map (R104). -/
def cbRow1 : List Instr :=
  [ .rlB, .rlC, .rlD, .rlE, .rlH, .rlL, .rlIndHl, .rlA, .rrB, .rrC, .rrD, .rrE, .rrH, .rrL, .rrIndHl, .rrA ]

/-- Row 2x of the CB map (R104). -/
def cbRow2 : List Instr :=
  [ .slaB, .slaC, .slaD, .slaE, .slaH, .slaL, .slaIndHl, .slaA, .sraB, .sraC, .sraD, .sraE, .sraH, .sraL, .sraIndHl, .sraA ]

/-- Row 3x of the CB map (R104). -/
def cbRow3 : List Instr :=
  [ .swapB, .swapC, .swapD, .swapE, .swapH, .swapL, .swapIndHl, .swapA, .srlB, .srlC, .srlD, .srlE, .srlH, .srlL, .srlIndHl, .srlA ]

/-- Row 4x of the CB map (R104). -/
def cbRow4 : List Instr :=
  [ .bit0B, .bit0C, .bit0D, .bit0E, .bit0H, .bit0L, .bit0IndHl, .bit0A, .bit1B, .bit1C, .bit1D, .bit1E, .bit1H, .bit1L, .bit1IndHl, .bit1A ]

/-- Row 5x of the CB map (R104). -/
def cbRow5 : List Instr :=
  [ .bit2B, .bit2C, .bit2D, .bit2E, .bit2H, .bit2L, .bit2IndHl, .bit2A, .bit3B, .bit3C, .bit3D, .bit3E, .bit3H, .bit3L, .bit3IndHl, .bit3A ]

/-- Row 6x of the CB map (R104). -/
def cbRow6 : List Instr :=
  [ .bit4B, .bit4C, .bit4D, .bit4E, .bit4H, .bit4L, .bit4IndHl, .bit4A, .bit5B, .bit5C, .bit5D, .bit5E, .bit5H, .bit5L, .bit5IndHl, .bit5A ]

/-- Row 7x of the CB map (R104). -/
def cbRow7 : List Instr :=
  [ .bit6B, .bit6C, .bit6D, .bit6E, .bit6H, .bit6L, .bit6IndHl, .bit6A, .bit7B, .bit7C, .bit7D, .bit7E, .bit7H, .bit7L, .bit7IndHl, .bit7A ]

/-- Row 8x of the CB map (R104). -/
def cbRow8 : List Instr :=
  [ .res0B, .res0C, .res0D, .res0E, .res0H, .res0L, .res0IndHl, .res0A, .res1B, .res1C, .res1D, .res1E, .res1H, .res1L, .res1IndHl, .res1A ]

/-- Row 9x of the CB map (R104). -/
def cbRow9 : List Instr :=
  [ .res2B, .res2C, .res2D, .res2E, .res2H, .res2L, .res2IndHl, .res2A, .res3B, .res3C, .res3D, .res3E, .res3H, .res3L, .res3IndHl, .res3A ]

/-- Row Ax of the CB map (R104). -/
def cbRowA : List Instr :=
  [ .res4B, .res4C, .res4D, .res4E, .res4H, .res4L, .res4IndHl, .res4A, .res5B, .res5C, .res5D, .res5E, .res5H, .res5L, .res5IndHl, .res5A ]

/-- Row Bx of the CB map (R104). -/
def cbRowB : List Instr :=
  [ .res6B, .res6C, .res6D, .res6E, .res6H, .res6L, .res6IndHl, .res6A, .res7B, .res7C, .res7D, .res7E, .res7H, .res7L, .res7IndHl, .res7A ]

/-- Row Cx of the CB map (R104). -/
def cbRowC : List Instr :=
  [ .set0B, .set0C, .set0D, .set0E, .set0H, .set0L, .set0IndHl, .set0A, .set1B, .set1C, .set1D, .set1E, .set1H, .set1L, .set1IndHl, .set1A ]

/-- Row Dx of the CB map (R104). -/
def cbRowD : List Instr :=
  [ .set2B, .set2C, .set2D, .set2E, .set2H, .set2L, .set2IndHl, .set2A, .set3B, .set3C, .set3D, .set3E, .set3H, .set3L, .set3IndHl, .set3A ]

/-- Row Ex of the CB map (R104). -/
def cbRowE : List Instr :=
  [ .set4B, .set4C, .set4D, .set4E, .set4H, .set4L, .set4IndHl, .set4A, .set5B, .set5C, .set5D, .set5E, .set5H, .set5L, .set5IndHl, .set5A ]

/-- Row Fx of the CB map (R104). -/
def cbRowF : List Instr :=
  [ .set6B, .set6C, .set6D, .set6E, .set6H, .set6L, .set6IndHl, .set6A, .set7B, .set7C, .set7D, .set7E, .set7H, .set7L, .set7IndHl, .set7A ]

/-- The CB map, one row for each high nibble (R104). -/
def cbRows : List (List Instr) :=
  [ cbRow0, cbRow1, cbRow2, cbRow3, cbRow4, cbRow5, cbRow6, cbRow7, cbRow8, cbRow9, cbRowA, cbRowB, cbRowC, cbRowD,
    cbRowE, cbRowF ]

/-- The cell of a 16 by 16 map at an opcode byte: high nibble the row, low nibble the column (R103, R104). Both maps are full, so
`spare` is never the answer. -/
def mapCell {α : Type} (rows : List (List α)) (op : Byte) (spare : α) : α :=
  (rows.getD (op.toNat / 16) []).getD (op.toNat % 16) spare

/-- What a primary opcode byte opens (R107). -/
def primaryEntry (op : Byte) : OpcodeEntry := mapCell primaryRows op .prefixed

/-- The instruction of a CB opcode; all 256 are defined (R104). -/
def cbInstr (cb : Byte) : Instr := mapCell cbRows cb .prefixCb

/-- The instruction read from an opcode byte and the two bytes after it, of which it uses what its format has (R107: decode is total). -/
def decode3 (op b1 b2 : Byte) : Instr :=
  match primaryEntry op with
  | .op i => i
  | .byte mk => mk b1
  | .word mk => mk (joinBytes b2 b1)
  | .prefixed => cbInstr b1

/-- Why a byte list is no instruction. -/
inductive DecodeError where
  /-- There is no byte. -/
  | noByte
  /-- The list ends before the immediate bytes of this opcode. -/
  | immediateMissing (op : Byte)
  deriving DecidableEq, Repr

/-- Decode the front of a byte list: the instruction and the bytes after it. The byte 0xCB with nothing after it is the bare prefix (R104,
R107); every list of three bytes or more decodes to an instruction. -/
def decode (bs : List Byte) : Except DecodeError (Instr × List Byte) :=
  match bs with
  | [] => .error .noByte
  | op :: rest =>
    match primaryEntry op, rest with
    | .op i, rest => .ok (i, rest)
    | .byte mk, b1 :: rest => .ok (mk b1, rest)
    | .byte _, [] => .error (.immediateMissing op)
    | .word mk, b1 :: b2 :: rest => .ok (mk (joinBytes b2 b1), rest)
    | .word _, [_] => .error (.immediateMissing op)
    | .word _, [] => .error (.immediateMissing op)
    | .prefixed, cb :: rest => .ok (cbInstr cb, rest)
    | .prefixed, [] => .ok (.prefixCb, [])

/-- The bytes of an opcode-table row's word. A row of at most 8 bits is its opcode byte. The table writes a CB row as 0xCB in bits 15..8
and the CB opcode in bits 7..0, and the prefix lies first in memory (R90, R104); any other word of more than 8 bits counts its bytes
from bit 0 up. Log entry 5. -/
def tableBytes (nbits w : Nat) : List Byte :=
  if nbits ≤ 8 then [BitVec.ofNat 8 w]
  else if nbits ≤ 16 then
    if w / 256 % 256 = 0xCB then [0xCB#8, BitVec.ofNat 8 w] else [BitVec.ofNat 8 w, BitVec.ofNat 8 (w / 256)]
  else [BitVec.ofNat 8 w, BitVec.ofNat 8 (w / 256), BitVec.ofNat 8 (w / 65536)]

/-- The instruction the decoder reads from an opcode-table row's word; operand bytes the table gives no bits are 0. -/
def decodeTableWord (nbits w : Nat) : Option Instr :=
  match decode (tableBytes nbits w) with
  | .ok (i, _) => some i
  | .error _ =>
    match decode (tableBytes nbits w ++ [0x00#8, 0x00#8]) with
    | .ok (i, _) => some i
    | .error _ => none

/-- The bytes of an instruction (R90, R98, R103, R104). -/
def encode (i : Instr) : List Byte :=
  match i with
  | .nop => [0x00#8]
  | .ldBcN16 n => [0x01#8, lowByte n, highByte n]
  | .ldIndBcA => [0x02#8]
  | .incBc => [0x03#8]
  | .incB => [0x04#8]
  | .decB => [0x05#8]
  | .ldBN8 n => [0x06#8, n]
  | .rlca => [0x07#8]
  | .ldIndA16Sp a => [0x08#8, lowByte a, highByte a]
  | .addHlBc => [0x09#8]
  | .ldAIndBc => [0x0A#8]
  | .decBc => [0x0B#8]
  | .incC => [0x0C#8]
  | .decC => [0x0D#8]
  | .ldCN8 n => [0x0E#8, n]
  | .rrca => [0x0F#8]
  | .stop ignored => [0x10#8, ignored]
  | .ldDeN16 n => [0x11#8, lowByte n, highByte n]
  | .ldIndDeA => [0x12#8]
  | .incDe => [0x13#8]
  | .incD => [0x14#8]
  | .decD => [0x15#8]
  | .ldDN8 n => [0x16#8, n]
  | .rla => [0x17#8]
  | .jrE8 e => [0x18#8, e]
  | .addHlDe => [0x19#8]
  | .ldAIndDe => [0x1A#8]
  | .decDe => [0x1B#8]
  | .incE => [0x1C#8]
  | .decE => [0x1D#8]
  | .ldEN8 n => [0x1E#8, n]
  | .rra => [0x1F#8]
  | .jrNzE8 e => [0x20#8, e]
  | .ldHlN16 n => [0x21#8, lowByte n, highByte n]
  | .ldIndHlIncA => [0x22#8]
  | .incHl => [0x23#8]
  | .incH => [0x24#8]
  | .decH => [0x25#8]
  | .ldHN8 n => [0x26#8, n]
  | .daa => [0x27#8]
  | .jrZE8 e => [0x28#8, e]
  | .addHlHl => [0x29#8]
  | .ldAIndHlInc => [0x2A#8]
  | .decHl => [0x2B#8]
  | .incL => [0x2C#8]
  | .decL => [0x2D#8]
  | .ldLN8 n => [0x2E#8, n]
  | .cpl => [0x2F#8]
  | .jrNcE8 e => [0x30#8, e]
  | .ldSpN16 n => [0x31#8, lowByte n, highByte n]
  | .ldIndHlDecA => [0x32#8]
  | .incSp => [0x33#8]
  | .incIndHl => [0x34#8]
  | .decIndHl => [0x35#8]
  | .ldIndHlN8 n => [0x36#8, n]
  | .scf => [0x37#8]
  | .jrCE8 e => [0x38#8, e]
  | .addHlSp => [0x39#8]
  | .ldAIndHlDec => [0x3A#8]
  | .decSp => [0x3B#8]
  | .incA => [0x3C#8]
  | .decA => [0x3D#8]
  | .ldAN8 n => [0x3E#8, n]
  | .ccf => [0x3F#8]
  | .ldBB => [0x40#8]
  | .ldBC => [0x41#8]
  | .ldBD => [0x42#8]
  | .ldBE => [0x43#8]
  | .ldBH => [0x44#8]
  | .ldBL => [0x45#8]
  | .ldBIndHl => [0x46#8]
  | .ldBA => [0x47#8]
  | .ldCB => [0x48#8]
  | .ldCC => [0x49#8]
  | .ldCD => [0x4A#8]
  | .ldCE => [0x4B#8]
  | .ldCH => [0x4C#8]
  | .ldCL => [0x4D#8]
  | .ldCIndHl => [0x4E#8]
  | .ldCA => [0x4F#8]
  | .ldDB => [0x50#8]
  | .ldDC => [0x51#8]
  | .ldDD => [0x52#8]
  | .ldDE => [0x53#8]
  | .ldDH => [0x54#8]
  | .ldDL => [0x55#8]
  | .ldDIndHl => [0x56#8]
  | .ldDA => [0x57#8]
  | .ldEB => [0x58#8]
  | .ldEC => [0x59#8]
  | .ldED => [0x5A#8]
  | .ldEE => [0x5B#8]
  | .ldEH => [0x5C#8]
  | .ldEL => [0x5D#8]
  | .ldEIndHl => [0x5E#8]
  | .ldEA => [0x5F#8]
  | .ldHB => [0x60#8]
  | .ldHC => [0x61#8]
  | .ldHD => [0x62#8]
  | .ldHE => [0x63#8]
  | .ldHH => [0x64#8]
  | .ldHL => [0x65#8]
  | .ldHIndHl => [0x66#8]
  | .ldHA => [0x67#8]
  | .ldLB => [0x68#8]
  | .ldLC => [0x69#8]
  | .ldLD => [0x6A#8]
  | .ldLE => [0x6B#8]
  | .ldLH => [0x6C#8]
  | .ldLL => [0x6D#8]
  | .ldLIndHl => [0x6E#8]
  | .ldLA => [0x6F#8]
  | .ldIndHlB => [0x70#8]
  | .ldIndHlC => [0x71#8]
  | .ldIndHlD => [0x72#8]
  | .ldIndHlE => [0x73#8]
  | .ldIndHlH => [0x74#8]
  | .ldIndHlL => [0x75#8]
  | .halt => [0x76#8]
  | .ldIndHlA => [0x77#8]
  | .ldAB => [0x78#8]
  | .ldAC => [0x79#8]
  | .ldAD => [0x7A#8]
  | .ldAE => [0x7B#8]
  | .ldAH => [0x7C#8]
  | .ldAL => [0x7D#8]
  | .ldAIndHl => [0x7E#8]
  | .ldAA => [0x7F#8]
  | .addAB => [0x80#8]
  | .addAC => [0x81#8]
  | .addAD => [0x82#8]
  | .addAE => [0x83#8]
  | .addAH => [0x84#8]
  | .addAL => [0x85#8]
  | .addAIndHl => [0x86#8]
  | .addAA => [0x87#8]
  | .adcAB => [0x88#8]
  | .adcAC => [0x89#8]
  | .adcAD => [0x8A#8]
  | .adcAE => [0x8B#8]
  | .adcAH => [0x8C#8]
  | .adcAL => [0x8D#8]
  | .adcAIndHl => [0x8E#8]
  | .adcAA => [0x8F#8]
  | .subB => [0x90#8]
  | .subC => [0x91#8]
  | .subD => [0x92#8]
  | .subE => [0x93#8]
  | .subH => [0x94#8]
  | .subL => [0x95#8]
  | .subIndHl => [0x96#8]
  | .subA => [0x97#8]
  | .sbcAB => [0x98#8]
  | .sbcAC => [0x99#8]
  | .sbcAD => [0x9A#8]
  | .sbcAE => [0x9B#8]
  | .sbcAH => [0x9C#8]
  | .sbcAL => [0x9D#8]
  | .sbcAIndHl => [0x9E#8]
  | .sbcAA => [0x9F#8]
  | .andB => [0xA0#8]
  | .andC => [0xA1#8]
  | .andD => [0xA2#8]
  | .andE => [0xA3#8]
  | .andH => [0xA4#8]
  | .andL => [0xA5#8]
  | .andIndHl => [0xA6#8]
  | .andA => [0xA7#8]
  | .xorB => [0xA8#8]
  | .xorC => [0xA9#8]
  | .xorD => [0xAA#8]
  | .xorE => [0xAB#8]
  | .xorH => [0xAC#8]
  | .xorL => [0xAD#8]
  | .xorIndHl => [0xAE#8]
  | .xorA => [0xAF#8]
  | .orB => [0xB0#8]
  | .orC => [0xB1#8]
  | .orD => [0xB2#8]
  | .orE => [0xB3#8]
  | .orH => [0xB4#8]
  | .orL => [0xB5#8]
  | .orIndHl => [0xB6#8]
  | .orA => [0xB7#8]
  | .cpB => [0xB8#8]
  | .cpC => [0xB9#8]
  | .cpD => [0xBA#8]
  | .cpE => [0xBB#8]
  | .cpH => [0xBC#8]
  | .cpL => [0xBD#8]
  | .cpIndHl => [0xBE#8]
  | .cpA => [0xBF#8]
  | .retNz => [0xC0#8]
  | .popBc => [0xC1#8]
  | .jpNzA16 a => [0xC2#8, lowByte a, highByte a]
  | .jpA16 a => [0xC3#8, lowByte a, highByte a]
  | .callNzA16 a => [0xC4#8, lowByte a, highByte a]
  | .pushBc => [0xC5#8]
  | .addAN8 n => [0xC6#8, n]
  | .rst00 => [0xC7#8]
  | .retZ => [0xC8#8]
  | .ret => [0xC9#8]
  | .jpZA16 a => [0xCA#8, lowByte a, highByte a]
  | .prefixCb => [0xCB#8]
  | .callZA16 a => [0xCC#8, lowByte a, highByte a]
  | .callA16 a => [0xCD#8, lowByte a, highByte a]
  | .adcAN8 n => [0xCE#8, n]
  | .rst08 => [0xCF#8]
  | .retNc => [0xD0#8]
  | .popDe => [0xD1#8]
  | .jpNcA16 a => [0xD2#8, lowByte a, highByte a]
  | .unrecognizedD3 => [0xD3#8]
  | .callNcA16 a => [0xD4#8, lowByte a, highByte a]
  | .pushDe => [0xD5#8]
  | .subN8 n => [0xD6#8, n]
  | .rst10 => [0xD7#8]
  | .retC => [0xD8#8]
  | .reti => [0xD9#8]
  | .jpCA16 a => [0xDA#8, lowByte a, highByte a]
  | .unrecognizedDB => [0xDB#8]
  | .callCA16 a => [0xDC#8, lowByte a, highByte a]
  | .unrecognizedDD => [0xDD#8]
  | .sbcAN8 n => [0xDE#8, n]
  | .rst18 => [0xDF#8]
  | .ldhIndA8A a8 => [0xE0#8, a8]
  | .popHl => [0xE1#8]
  | .ldIndCA => [0xE2#8]
  | .unrecognizedE3 => [0xE3#8]
  | .unrecognizedE4 => [0xE4#8]
  | .pushHl => [0xE5#8]
  | .andN8 n => [0xE6#8, n]
  | .rst20 => [0xE7#8]
  | .addSpE8 e => [0xE8#8, e]
  | .jpHl => [0xE9#8]
  | .ldIndA16A a => [0xEA#8, lowByte a, highByte a]
  | .unrecognizedEB => [0xEB#8]
  | .unrecognizedEC => [0xEC#8]
  | .unrecognizedED => [0xED#8]
  | .xorN8 n => [0xEE#8, n]
  | .rst28 => [0xEF#8]
  | .ldhAIndA8 a8 => [0xF0#8, a8]
  | .popAf => [0xF1#8]
  | .ldAIndC => [0xF2#8]
  | .di => [0xF3#8]
  | .unrecognizedF4 => [0xF4#8]
  | .pushAf => [0xF5#8]
  | .orN8 n => [0xF6#8, n]
  | .rst30 => [0xF7#8]
  | .ldHlSpE8 e => [0xF8#8, e]
  | .ldSpHl => [0xF9#8]
  | .ldAIndA16 a => [0xFA#8, lowByte a, highByte a]
  | .ei => [0xFB#8]
  | .unrecognizedFC => [0xFC#8]
  | .unrecognizedFD => [0xFD#8]
  | .cpN8 n => [0xFE#8, n]
  | .rst38 => [0xFF#8]
  | .rlcB => [0xCB#8, 0x00#8]
  | .rlcC => [0xCB#8, 0x01#8]
  | .rlcD => [0xCB#8, 0x02#8]
  | .rlcE => [0xCB#8, 0x03#8]
  | .rlcH => [0xCB#8, 0x04#8]
  | .rlcL => [0xCB#8, 0x05#8]
  | .rlcIndHl => [0xCB#8, 0x06#8]
  | .rlcA => [0xCB#8, 0x07#8]
  | .rrcB => [0xCB#8, 0x08#8]
  | .rrcC => [0xCB#8, 0x09#8]
  | .rrcD => [0xCB#8, 0x0A#8]
  | .rrcE => [0xCB#8, 0x0B#8]
  | .rrcH => [0xCB#8, 0x0C#8]
  | .rrcL => [0xCB#8, 0x0D#8]
  | .rrcIndHl => [0xCB#8, 0x0E#8]
  | .rrcA => [0xCB#8, 0x0F#8]
  | .rlB => [0xCB#8, 0x10#8]
  | .rlC => [0xCB#8, 0x11#8]
  | .rlD => [0xCB#8, 0x12#8]
  | .rlE => [0xCB#8, 0x13#8]
  | .rlH => [0xCB#8, 0x14#8]
  | .rlL => [0xCB#8, 0x15#8]
  | .rlIndHl => [0xCB#8, 0x16#8]
  | .rlA => [0xCB#8, 0x17#8]
  | .rrB => [0xCB#8, 0x18#8]
  | .rrC => [0xCB#8, 0x19#8]
  | .rrD => [0xCB#8, 0x1A#8]
  | .rrE => [0xCB#8, 0x1B#8]
  | .rrH => [0xCB#8, 0x1C#8]
  | .rrL => [0xCB#8, 0x1D#8]
  | .rrIndHl => [0xCB#8, 0x1E#8]
  | .rrA => [0xCB#8, 0x1F#8]
  | .slaB => [0xCB#8, 0x20#8]
  | .slaC => [0xCB#8, 0x21#8]
  | .slaD => [0xCB#8, 0x22#8]
  | .slaE => [0xCB#8, 0x23#8]
  | .slaH => [0xCB#8, 0x24#8]
  | .slaL => [0xCB#8, 0x25#8]
  | .slaIndHl => [0xCB#8, 0x26#8]
  | .slaA => [0xCB#8, 0x27#8]
  | .sraB => [0xCB#8, 0x28#8]
  | .sraC => [0xCB#8, 0x29#8]
  | .sraD => [0xCB#8, 0x2A#8]
  | .sraE => [0xCB#8, 0x2B#8]
  | .sraH => [0xCB#8, 0x2C#8]
  | .sraL => [0xCB#8, 0x2D#8]
  | .sraIndHl => [0xCB#8, 0x2E#8]
  | .sraA => [0xCB#8, 0x2F#8]
  | .swapB => [0xCB#8, 0x30#8]
  | .swapC => [0xCB#8, 0x31#8]
  | .swapD => [0xCB#8, 0x32#8]
  | .swapE => [0xCB#8, 0x33#8]
  | .swapH => [0xCB#8, 0x34#8]
  | .swapL => [0xCB#8, 0x35#8]
  | .swapIndHl => [0xCB#8, 0x36#8]
  | .swapA => [0xCB#8, 0x37#8]
  | .srlB => [0xCB#8, 0x38#8]
  | .srlC => [0xCB#8, 0x39#8]
  | .srlD => [0xCB#8, 0x3A#8]
  | .srlE => [0xCB#8, 0x3B#8]
  | .srlH => [0xCB#8, 0x3C#8]
  | .srlL => [0xCB#8, 0x3D#8]
  | .srlIndHl => [0xCB#8, 0x3E#8]
  | .srlA => [0xCB#8, 0x3F#8]
  | .bit0B => [0xCB#8, 0x40#8]
  | .bit0C => [0xCB#8, 0x41#8]
  | .bit0D => [0xCB#8, 0x42#8]
  | .bit0E => [0xCB#8, 0x43#8]
  | .bit0H => [0xCB#8, 0x44#8]
  | .bit0L => [0xCB#8, 0x45#8]
  | .bit0IndHl => [0xCB#8, 0x46#8]
  | .bit0A => [0xCB#8, 0x47#8]
  | .bit1B => [0xCB#8, 0x48#8]
  | .bit1C => [0xCB#8, 0x49#8]
  | .bit1D => [0xCB#8, 0x4A#8]
  | .bit1E => [0xCB#8, 0x4B#8]
  | .bit1H => [0xCB#8, 0x4C#8]
  | .bit1L => [0xCB#8, 0x4D#8]
  | .bit1IndHl => [0xCB#8, 0x4E#8]
  | .bit1A => [0xCB#8, 0x4F#8]
  | .bit2B => [0xCB#8, 0x50#8]
  | .bit2C => [0xCB#8, 0x51#8]
  | .bit2D => [0xCB#8, 0x52#8]
  | .bit2E => [0xCB#8, 0x53#8]
  | .bit2H => [0xCB#8, 0x54#8]
  | .bit2L => [0xCB#8, 0x55#8]
  | .bit2IndHl => [0xCB#8, 0x56#8]
  | .bit2A => [0xCB#8, 0x57#8]
  | .bit3B => [0xCB#8, 0x58#8]
  | .bit3C => [0xCB#8, 0x59#8]
  | .bit3D => [0xCB#8, 0x5A#8]
  | .bit3E => [0xCB#8, 0x5B#8]
  | .bit3H => [0xCB#8, 0x5C#8]
  | .bit3L => [0xCB#8, 0x5D#8]
  | .bit3IndHl => [0xCB#8, 0x5E#8]
  | .bit3A => [0xCB#8, 0x5F#8]
  | .bit4B => [0xCB#8, 0x60#8]
  | .bit4C => [0xCB#8, 0x61#8]
  | .bit4D => [0xCB#8, 0x62#8]
  | .bit4E => [0xCB#8, 0x63#8]
  | .bit4H => [0xCB#8, 0x64#8]
  | .bit4L => [0xCB#8, 0x65#8]
  | .bit4IndHl => [0xCB#8, 0x66#8]
  | .bit4A => [0xCB#8, 0x67#8]
  | .bit5B => [0xCB#8, 0x68#8]
  | .bit5C => [0xCB#8, 0x69#8]
  | .bit5D => [0xCB#8, 0x6A#8]
  | .bit5E => [0xCB#8, 0x6B#8]
  | .bit5H => [0xCB#8, 0x6C#8]
  | .bit5L => [0xCB#8, 0x6D#8]
  | .bit5IndHl => [0xCB#8, 0x6E#8]
  | .bit5A => [0xCB#8, 0x6F#8]
  | .bit6B => [0xCB#8, 0x70#8]
  | .bit6C => [0xCB#8, 0x71#8]
  | .bit6D => [0xCB#8, 0x72#8]
  | .bit6E => [0xCB#8, 0x73#8]
  | .bit6H => [0xCB#8, 0x74#8]
  | .bit6L => [0xCB#8, 0x75#8]
  | .bit6IndHl => [0xCB#8, 0x76#8]
  | .bit6A => [0xCB#8, 0x77#8]
  | .bit7B => [0xCB#8, 0x78#8]
  | .bit7C => [0xCB#8, 0x79#8]
  | .bit7D => [0xCB#8, 0x7A#8]
  | .bit7E => [0xCB#8, 0x7B#8]
  | .bit7H => [0xCB#8, 0x7C#8]
  | .bit7L => [0xCB#8, 0x7D#8]
  | .bit7IndHl => [0xCB#8, 0x7E#8]
  | .bit7A => [0xCB#8, 0x7F#8]
  | .res0B => [0xCB#8, 0x80#8]
  | .res0C => [0xCB#8, 0x81#8]
  | .res0D => [0xCB#8, 0x82#8]
  | .res0E => [0xCB#8, 0x83#8]
  | .res0H => [0xCB#8, 0x84#8]
  | .res0L => [0xCB#8, 0x85#8]
  | .res0IndHl => [0xCB#8, 0x86#8]
  | .res0A => [0xCB#8, 0x87#8]
  | .res1B => [0xCB#8, 0x88#8]
  | .res1C => [0xCB#8, 0x89#8]
  | .res1D => [0xCB#8, 0x8A#8]
  | .res1E => [0xCB#8, 0x8B#8]
  | .res1H => [0xCB#8, 0x8C#8]
  | .res1L => [0xCB#8, 0x8D#8]
  | .res1IndHl => [0xCB#8, 0x8E#8]
  | .res1A => [0xCB#8, 0x8F#8]
  | .res2B => [0xCB#8, 0x90#8]
  | .res2C => [0xCB#8, 0x91#8]
  | .res2D => [0xCB#8, 0x92#8]
  | .res2E => [0xCB#8, 0x93#8]
  | .res2H => [0xCB#8, 0x94#8]
  | .res2L => [0xCB#8, 0x95#8]
  | .res2IndHl => [0xCB#8, 0x96#8]
  | .res2A => [0xCB#8, 0x97#8]
  | .res3B => [0xCB#8, 0x98#8]
  | .res3C => [0xCB#8, 0x99#8]
  | .res3D => [0xCB#8, 0x9A#8]
  | .res3E => [0xCB#8, 0x9B#8]
  | .res3H => [0xCB#8, 0x9C#8]
  | .res3L => [0xCB#8, 0x9D#8]
  | .res3IndHl => [0xCB#8, 0x9E#8]
  | .res3A => [0xCB#8, 0x9F#8]
  | .res4B => [0xCB#8, 0xA0#8]
  | .res4C => [0xCB#8, 0xA1#8]
  | .res4D => [0xCB#8, 0xA2#8]
  | .res4E => [0xCB#8, 0xA3#8]
  | .res4H => [0xCB#8, 0xA4#8]
  | .res4L => [0xCB#8, 0xA5#8]
  | .res4IndHl => [0xCB#8, 0xA6#8]
  | .res4A => [0xCB#8, 0xA7#8]
  | .res5B => [0xCB#8, 0xA8#8]
  | .res5C => [0xCB#8, 0xA9#8]
  | .res5D => [0xCB#8, 0xAA#8]
  | .res5E => [0xCB#8, 0xAB#8]
  | .res5H => [0xCB#8, 0xAC#8]
  | .res5L => [0xCB#8, 0xAD#8]
  | .res5IndHl => [0xCB#8, 0xAE#8]
  | .res5A => [0xCB#8, 0xAF#8]
  | .res6B => [0xCB#8, 0xB0#8]
  | .res6C => [0xCB#8, 0xB1#8]
  | .res6D => [0xCB#8, 0xB2#8]
  | .res6E => [0xCB#8, 0xB3#8]
  | .res6H => [0xCB#8, 0xB4#8]
  | .res6L => [0xCB#8, 0xB5#8]
  | .res6IndHl => [0xCB#8, 0xB6#8]
  | .res6A => [0xCB#8, 0xB7#8]
  | .res7B => [0xCB#8, 0xB8#8]
  | .res7C => [0xCB#8, 0xB9#8]
  | .res7D => [0xCB#8, 0xBA#8]
  | .res7E => [0xCB#8, 0xBB#8]
  | .res7H => [0xCB#8, 0xBC#8]
  | .res7L => [0xCB#8, 0xBD#8]
  | .res7IndHl => [0xCB#8, 0xBE#8]
  | .res7A => [0xCB#8, 0xBF#8]
  | .set0B => [0xCB#8, 0xC0#8]
  | .set0C => [0xCB#8, 0xC1#8]
  | .set0D => [0xCB#8, 0xC2#8]
  | .set0E => [0xCB#8, 0xC3#8]
  | .set0H => [0xCB#8, 0xC4#8]
  | .set0L => [0xCB#8, 0xC5#8]
  | .set0IndHl => [0xCB#8, 0xC6#8]
  | .set0A => [0xCB#8, 0xC7#8]
  | .set1B => [0xCB#8, 0xC8#8]
  | .set1C => [0xCB#8, 0xC9#8]
  | .set1D => [0xCB#8, 0xCA#8]
  | .set1E => [0xCB#8, 0xCB#8]
  | .set1H => [0xCB#8, 0xCC#8]
  | .set1L => [0xCB#8, 0xCD#8]
  | .set1IndHl => [0xCB#8, 0xCE#8]
  | .set1A => [0xCB#8, 0xCF#8]
  | .set2B => [0xCB#8, 0xD0#8]
  | .set2C => [0xCB#8, 0xD1#8]
  | .set2D => [0xCB#8, 0xD2#8]
  | .set2E => [0xCB#8, 0xD3#8]
  | .set2H => [0xCB#8, 0xD4#8]
  | .set2L => [0xCB#8, 0xD5#8]
  | .set2IndHl => [0xCB#8, 0xD6#8]
  | .set2A => [0xCB#8, 0xD7#8]
  | .set3B => [0xCB#8, 0xD8#8]
  | .set3C => [0xCB#8, 0xD9#8]
  | .set3D => [0xCB#8, 0xDA#8]
  | .set3E => [0xCB#8, 0xDB#8]
  | .set3H => [0xCB#8, 0xDC#8]
  | .set3L => [0xCB#8, 0xDD#8]
  | .set3IndHl => [0xCB#8, 0xDE#8]
  | .set3A => [0xCB#8, 0xDF#8]
  | .set4B => [0xCB#8, 0xE0#8]
  | .set4C => [0xCB#8, 0xE1#8]
  | .set4D => [0xCB#8, 0xE2#8]
  | .set4E => [0xCB#8, 0xE3#8]
  | .set4H => [0xCB#8, 0xE4#8]
  | .set4L => [0xCB#8, 0xE5#8]
  | .set4IndHl => [0xCB#8, 0xE6#8]
  | .set4A => [0xCB#8, 0xE7#8]
  | .set5B => [0xCB#8, 0xE8#8]
  | .set5C => [0xCB#8, 0xE9#8]
  | .set5D => [0xCB#8, 0xEA#8]
  | .set5E => [0xCB#8, 0xEB#8]
  | .set5H => [0xCB#8, 0xEC#8]
  | .set5L => [0xCB#8, 0xED#8]
  | .set5IndHl => [0xCB#8, 0xEE#8]
  | .set5A => [0xCB#8, 0xEF#8]
  | .set6B => [0xCB#8, 0xF0#8]
  | .set6C => [0xCB#8, 0xF1#8]
  | .set6D => [0xCB#8, 0xF2#8]
  | .set6E => [0xCB#8, 0xF3#8]
  | .set6H => [0xCB#8, 0xF4#8]
  | .set6L => [0xCB#8, 0xF5#8]
  | .set6IndHl => [0xCB#8, 0xF6#8]
  | .set6A => [0xCB#8, 0xF7#8]
  | .set7B => [0xCB#8, 0xF8#8]
  | .set7C => [0xCB#8, 0xF9#8]
  | .set7D => [0xCB#8, 0xFA#8]
  | .set7E => [0xCB#8, 0xFB#8]
  | .set7H => [0xCB#8, 0xFC#8]
  | .set7L => [0xCB#8, 0xFD#8]
  | .set7IndHl => [0xCB#8, 0xFE#8]
  | .set7A => [0xCB#8, 0xFF#8]

/-- The opcode's number as opcode_table.json writes it: the opcode byte, or 0xCB00 and the CB opcode. -/
def opcodeNumber (i : Instr) : Nat :=
  match encode i with
  | [] => 0
  | op :: rest =>
    match rest with
    | [] => op.toNat
    | cb :: _ => if op = 0xCB#8 then 0xCB00 + cb.toNat else op.toNat

end Sys2Proof
end

