-- ==== Sys2Proof/Machine/Fetch.lean ====
section
/-! DEFINITION. Fetching an instruction (spec 30_encoding R110; 10_state R27), and placing an instruction's bytes where the next fetch reads. -/

namespace Sys2Proof.Machine

/-- The instruction at PC. Its bytes are read through read_byte at PC, PC + 1 and PC + 2, modulo 2^16; reads are pure, so reading a byte the
instruction does not have is not observable (R110; 20_memory R69, R82). -/
def fetchInstr (s : State) : Instr :=
  decode3 (readByte s s.cpu.pc) (readByte s (s.cpu.pc + 1#16)) (readByte s (s.cpu.pc + 2#16))

/-- An image with one byte changed. -/
def Image.withByte (i : Image) (off : Nat) (v : Byte) : Image := { i with bytes := Memory.write i.bytes off v }

/-- The session with the byte a fetch at `a` reads made `v`, where a byte backs that address: an image byte, or a storage byte. Not an
operation of the hardware: it stands for the external loader (00_scope R8; log entry 5). -/
def placeByte (s : State) (a : Word) (v : Byte) : State :=
  match regionOf s.params.map a with
  | .bootRom0 =>
    match s.mmu.bootMapped, s.params.boot with
    | true, some b => { s with params := { s.params with boot := some (Image.withByte b a.toNat v) } }
    | _, _ => { s with params := { s.params with cart := Image.withByte s.params.cart a.toNat v } }
  | .rom0 => { s with params := { s.params with cart := Image.withByte s.params.cart a.toNat v } }
  | .romx =>
    { s with params := { s.params with
        cart := Image.withByte s.params.cart (romxOffset s.params.map s.mmu.bank a) v } }
  | .vram => s
  | .oam => s
  | .extram => s
  | .unusable => s
  | .wram => writeByte s a v
  | .echo => writeByte s a v
  | .io =>
    match ioKindOf s.params a with
    | .storage => writeByte s a v
    | .stub _ => s
    | .unmapped => s
    | .bootDisable => s
  | .hram => writeByte s a v
  | .ie => writeByte s a v

/-- Place three bytes at PC, PC + 1 and PC + 2. -/
def placeAtPc (s : State) (b0 b1 b2 : Byte) : State :=
  placeByte (placeByte (placeByte s s.cpu.pc b0) (s.cpu.pc + 1#16) b1) (s.cpu.pc + 2#16) b2

/-- The next fetch reads these three bytes. -/
def fetchReads (s : State) (b0 b1 b2 : Byte) : Bool :=
  decide (readByte s s.cpu.pc = b0) && decide (readByte s (s.cpu.pc + 1#16) = b1) &&
    decide (readByte s (s.cpu.pc + 2#16) = b2)

/-- The session, RUNNING, with three bytes where the next fetch reads. Where no byte backs the address at PC (video, unmapped), PC is first
moved to working RAM at 0xC000, the nearest place a program can lie. -/
def placeInstr (s : State) (b0 b1 b2 : Byte) : State :=
  let running := { s with cpu := { s.cpu with halted := false } }
  let placed := placeAtPc running b0 b1 b2
  if fetchReads placed b0 b1 b2 then placed else placeAtPc (jumpTo 0xC000#16 running) b0 b1 b2

end Sys2Proof.Machine
end

