-- ==== Sys2Proof/Machine/Step.lean ====
section
/-! DEFINITION. One step (spec 30_encoding R110), and the state with a given instruction at its next fetch. -/

namespace Sys2Proof.Machine

/-- One call of `step()` (R110). While HALTED the call has no meaning and is refused (45_misc R271; 70_reset R335, R336; D18). The meaning
starts with PC at the opcode and moves it past the instruction itself, so nothing stands around `exec`. The cost the call returns
is `stepCost`. -/
def step (s : State) : Host.Outcome State Fault Refusal :=
  if s.cpu.halted then .refused .stepWhileHalted else exec (fetchInstr s) s

/-- The state with the instruction of an opcode-table row's word stored where `step` fetches its next instruction, operand bytes the table
gives no bits being 0. At State.reset that is cartridge offset 0x0100 (log entry 5). -/
def State.withFetchWord (s : State) (nbits w : Nat) : State :=
  placeInstr s ((tableBytes nbits w).getD 0 0x00#8) ((tableBytes nbits w).getD 1 0x00#8)
    ((tableBytes nbits w).getD 2 0x00#8)

end Sys2Proof.Machine
end

