-- ==== Sys2Proof/Machine/Construct.lean ====
section
/-! DEFINITION. Construction of a session (spec 70_reset R320 to R323; 10_state R37 to R39). It is not a step: the host constructs once, and a
new session is a new construction. -/

namespace Sys2Proof.Machine

/-- `ram_init`: the contents of every storage byte at construction (10_state R39; D12). The spec leaves it unconstrained, so it is an argument. -/
structure RamInit where
  wram : Memory
  hram : Memory
  io   : Memory
  ie   : Byte
  deriving DecidableEq, Repr

/-- The images meet R321's requirements: the cartridge covers bank 0, and the boot image, if any, has 256 bytes. -/
def imagesAccepted (p : Params) : Bool :=
  decide (0x4000 ≤ p.cart.len) &&
    (match p.boot with
      | none => true
      | some b => decide (b.len = 256))

/-- The parameters with `bank_mask` computed from the header byte cart[0x0148] (20_memory R57; R321). -/
def withBankMask (p : Params) : Params := { p with bankMask := bankMaskOf (imageByte p.cart 0x0148) }

/-- The register state: the only fork the boot image drives in the CPU (R322, R323). -/
def cpuAtConstruction (p : Params) : Cpu := if p.boot.isSome then Cpu.allZero else Cpu.postBoot

/-- The MMU state (R321; 10_state R39). -/
def mmuAtConstruction (p : Params) (ram : RamInit) : Mmu where
  bank := 0x01#8
  bootMapped := p.boot.isSome
  wram := ram.wram
  hram := ram.hram
  io := ram.io
  ie := ram.ie

/-- The session constructed from the images, the parameters and the RAM contents, or none where construction is refused (R321). The
given `bankMask` is not used: the header byte decides it. -/
def construct (p : Params) (ram : RamInit) : Option State :=
  if imagesAccepted p then
    some { cpu := cpuAtConstruction p, mmu := mmuAtConstruction p ram, params := withBankMask p }
  else none

end Sys2Proof.Machine
end

