-- ==== Sys2Proof/Machine/Timing.lean ====
section
/-! DEFINITION. The cost of a step in machine cycles (spec 70_reset R333, R334): an output of the step, never state. The standard table as data,
what a session's `cycle_table` replaces, and the cost `step()` returns. -/

namespace Sys2Proof.Machine

/-- A row of the standard table: the condition of a conditional transfer, and the cost. -/
structure CycleEntry where
  cond : Option Cond
  cost : Cost
  deriving DecidableEq, Repr

/-- A cost that does not depend on a condition. -/
def fixedCost (n : Nat) : CycleEntry := { cond := none, cost := { taken := n, notTaken := n } }

/-- The two costs of a conditional transfer (43_control R220). -/
def condCost (cc : Cond) (taken notTaken : Nat) : CycleEntry :=
  { cond := some cc, cost := { taken := taken, notTaken := notTaken } }

/-- The standard SM83 table (R334; `cycles` and `cycles_not_taken` of opcode_table.json). The bare prefix has no cost of its own: the cost of
a CB instruction includes it. -/
def standardCycles (i : Instr) : Option CycleEntry :=
  match i with
  | .nop => some (fixedCost 1)
  | .ldBcN16 _ => some (fixedCost 3)
  | .ldIndBcA => some (fixedCost 2)
  | .incBc => some (fixedCost 2)
  | .incB => some (fixedCost 1)
  | .decB => some (fixedCost 1)
  | .ldBN8 _ => some (fixedCost 2)
  | .rlca => some (fixedCost 1)
  | .ldIndA16Sp _ => some (fixedCost 5)
  | .addHlBc => some (fixedCost 2)
  | .ldAIndBc => some (fixedCost 2)
  | .decBc => some (fixedCost 2)
  | .incC => some (fixedCost 1)
  | .decC => some (fixedCost 1)
  | .ldCN8 _ => some (fixedCost 2)
  | .rrca => some (fixedCost 1)
  | .stop _ => some (fixedCost 1)
  | .ldDeN16 _ => some (fixedCost 3)
  | .ldIndDeA => some (fixedCost 2)
  | .incDe => some (fixedCost 2)
  | .incD => some (fixedCost 1)
  | .decD => some (fixedCost 1)
  | .ldDN8 _ => some (fixedCost 2)
  | .rla => some (fixedCost 1)
  | .jrE8 _ => some (fixedCost 3)
  | .addHlDe => some (fixedCost 2)
  | .ldAIndDe => some (fixedCost 2)
  | .decDe => some (fixedCost 2)
  | .incE => some (fixedCost 1)
  | .decE => some (fixedCost 1)
  | .ldEN8 _ => some (fixedCost 2)
  | .rra => some (fixedCost 1)
  | .jrNzE8 _ => some (condCost .nz 3 2)
  | .ldHlN16 _ => some (fixedCost 3)
  | .ldIndHlIncA => some (fixedCost 2)
  | .incHl => some (fixedCost 2)
  | .incH => some (fixedCost 1)
  | .decH => some (fixedCost 1)
  | .ldHN8 _ => some (fixedCost 2)
  | .daa => some (fixedCost 1)
  | .jrZE8 _ => some (condCost .z 3 2)
  | .addHlHl => some (fixedCost 2)
  | .ldAIndHlInc => some (fixedCost 2)
  | .decHl => some (fixedCost 2)
  | .incL => some (fixedCost 1)
  | .decL => some (fixedCost 1)
  | .ldLN8 _ => some (fixedCost 2)
  | .cpl => some (fixedCost 1)
  | .jrNcE8 _ => some (condCost .nc 3 2)
  | .ldSpN16 _ => some (fixedCost 3)
  | .ldIndHlDecA => some (fixedCost 2)
  | .incSp => some (fixedCost 2)
  | .incIndHl => some (fixedCost 3)
  | .decIndHl => some (fixedCost 3)
  | .ldIndHlN8 _ => some (fixedCost 3)
  | .scf => some (fixedCost 1)
  | .jrCE8 _ => some (condCost .c 3 2)
  | .addHlSp => some (fixedCost 2)
  | .ldAIndHlDec => some (fixedCost 2)
  | .decSp => some (fixedCost 2)
  | .incA => some (fixedCost 1)
  | .decA => some (fixedCost 1)
  | .ldAN8 _ => some (fixedCost 2)
  | .ccf => some (fixedCost 1)
  | .ldBB => some (fixedCost 1)
  | .ldBC => some (fixedCost 1)
  | .ldBD => some (fixedCost 1)
  | .ldBE => some (fixedCost 1)
  | .ldBH => some (fixedCost 1)
  | .ldBL => some (fixedCost 1)
  | .ldBIndHl => some (fixedCost 2)
  | .ldBA => some (fixedCost 1)
  | .ldCB => some (fixedCost 1)
  | .ldCC => some (fixedCost 1)
  | .ldCD => some (fixedCost 1)
  | .ldCE => some (fixedCost 1)
  | .ldCH => some (fixedCost 1)
  | .ldCL => some (fixedCost 1)
  | .ldCIndHl => some (fixedCost 2)
  | .ldCA => some (fixedCost 1)
  | .ldDB => some (fixedCost 1)
  | .ldDC => some (fixedCost 1)
  | .ldDD => some (fixedCost 1)
  | .ldDE => some (fixedCost 1)
  | .ldDH => some (fixedCost 1)
  | .ldDL => some (fixedCost 1)
  | .ldDIndHl => some (fixedCost 2)
  | .ldDA => some (fixedCost 1)
  | .ldEB => some (fixedCost 1)
  | .ldEC => some (fixedCost 1)
  | .ldED => some (fixedCost 1)
  | .ldEE => some (fixedCost 1)
  | .ldEH => some (fixedCost 1)
  | .ldEL => some (fixedCost 1)
  | .ldEIndHl => some (fixedCost 2)
  | .ldEA => some (fixedCost 1)
  | .ldHB => some (fixedCost 1)
  | .ldHC => some (fixedCost 1)
  | .ldHD => some (fixedCost 1)
  | .ldHE => some (fixedCost 1)
  | .ldHH => some (fixedCost 1)
  | .ldHL => some (fixedCost 1)
  | .ldHIndHl => some (fixedCost 2)
  | .ldHA => some (fixedCost 1)
  | .ldLB => some (fixedCost 1)
  | .ldLC => some (fixedCost 1)
  | .ldLD => some (fixedCost 1)
  | .ldLE => some (fixedCost 1)
  | .ldLH => some (fixedCost 1)
  | .ldLL => some (fixedCost 1)
  | .ldLIndHl => some (fixedCost 2)
  | .ldLA => some (fixedCost 1)
  | .ldIndHlB => some (fixedCost 2)
  | .ldIndHlC => some (fixedCost 2)
  | .ldIndHlD => some (fixedCost 2)
  | .ldIndHlE => some (fixedCost 2)
  | .ldIndHlH => some (fixedCost 2)
  | .ldIndHlL => some (fixedCost 2)
  | .halt => some (fixedCost 1)
  | .ldIndHlA => some (fixedCost 2)
  | .ldAB => some (fixedCost 1)
  | .ldAC => some (fixedCost 1)
  | .ldAD => some (fixedCost 1)
  | .ldAE => some (fixedCost 1)
  | .ldAH => some (fixedCost 1)
  | .ldAL => some (fixedCost 1)
  | .ldAIndHl => some (fixedCost 2)
  | .ldAA => some (fixedCost 1)
  | .addAB => some (fixedCost 1)
  | .addAC => some (fixedCost 1)
  | .addAD => some (fixedCost 1)
  | .addAE => some (fixedCost 1)
  | .addAH => some (fixedCost 1)
  | .addAL => some (fixedCost 1)
  | .addAIndHl => some (fixedCost 2)
  | .addAA => some (fixedCost 1)
  | .adcAB => some (fixedCost 1)
  | .adcAC => some (fixedCost 1)
  | .adcAD => some (fixedCost 1)
  | .adcAE => some (fixedCost 1)
  | .adcAH => some (fixedCost 1)
  | .adcAL => some (fixedCost 1)
  | .adcAIndHl => some (fixedCost 2)
  | .adcAA => some (fixedCost 1)
  | .subB => some (fixedCost 1)
  | .subC => some (fixedCost 1)
  | .subD => some (fixedCost 1)
  | .subE => some (fixedCost 1)
  | .subH => some (fixedCost 1)
  | .subL => some (fixedCost 1)
  | .subIndHl => some (fixedCost 2)
  | .subA => some (fixedCost 1)
  | .sbcAB => some (fixedCost 1)
  | .sbcAC => some (fixedCost 1)
  | .sbcAD => some (fixedCost 1)
  | .sbcAE => some (fixedCost 1)
  | .sbcAH => some (fixedCost 1)
  | .sbcAL => some (fixedCost 1)
  | .sbcAIndHl => some (fixedCost 2)
  | .sbcAA => some (fixedCost 1)
  | .andB => some (fixedCost 1)
  | .andC => some (fixedCost 1)
  | .andD => some (fixedCost 1)
  | .andE => some (fixedCost 1)
  | .andH => some (fixedCost 1)
  | .andL => some (fixedCost 1)
  | .andIndHl => some (fixedCost 2)
  | .andA => some (fixedCost 1)
  | .xorB => some (fixedCost 1)
  | .xorC => some (fixedCost 1)
  | .xorD => some (fixedCost 1)
  | .xorE => some (fixedCost 1)
  | .xorH => some (fixedCost 1)
  | .xorL => some (fixedCost 1)
  | .xorIndHl => some (fixedCost 2)
  | .xorA => some (fixedCost 1)
  | .orB => some (fixedCost 1)
  | .orC => some (fixedCost 1)
  | .orD => some (fixedCost 1)
  | .orE => some (fixedCost 1)
  | .orH => some (fixedCost 1)
  | .orL => some (fixedCost 1)
  | .orIndHl => some (fixedCost 2)
  | .orA => some (fixedCost 1)
  | .cpB => some (fixedCost 1)
  | .cpC => some (fixedCost 1)
  | .cpD => some (fixedCost 1)
  | .cpE => some (fixedCost 1)
  | .cpH => some (fixedCost 1)
  | .cpL => some (fixedCost 1)
  | .cpIndHl => some (fixedCost 2)
  | .cpA => some (fixedCost 1)
  | .retNz => some (condCost .nz 5 2)
  | .popBc => some (fixedCost 3)
  | .jpNzA16 _ => some (condCost .nz 4 3)
  | .jpA16 _ => some (fixedCost 4)
  | .callNzA16 _ => some (condCost .nz 6 3)
  | .pushBc => some (fixedCost 4)
  | .addAN8 _ => some (fixedCost 2)
  | .rst00 => some (fixedCost 4)
  | .retZ => some (condCost .z 5 2)
  | .ret => some (fixedCost 4)
  | .jpZA16 _ => some (condCost .z 4 3)
  | .prefixCb => none
  | .callZA16 _ => some (condCost .z 6 3)
  | .callA16 _ => some (fixedCost 6)
  | .adcAN8 _ => some (fixedCost 2)
  | .rst08 => some (fixedCost 4)
  | .retNc => some (condCost .nc 5 2)
  | .popDe => some (fixedCost 3)
  | .jpNcA16 _ => some (condCost .nc 4 3)
  | .unrecognizedD3 => some (fixedCost 1)
  | .callNcA16 _ => some (condCost .nc 6 3)
  | .pushDe => some (fixedCost 4)
  | .subN8 _ => some (fixedCost 2)
  | .rst10 => some (fixedCost 4)
  | .retC => some (condCost .c 5 2)
  | .reti => some (fixedCost 4)
  | .jpCA16 _ => some (condCost .c 4 3)
  | .unrecognizedDB => some (fixedCost 1)
  | .callCA16 _ => some (condCost .c 6 3)
  | .unrecognizedDD => some (fixedCost 1)
  | .sbcAN8 _ => some (fixedCost 2)
  | .rst18 => some (fixedCost 4)
  | .ldhIndA8A _ => some (fixedCost 3)
  | .popHl => some (fixedCost 3)
  | .ldIndCA => some (fixedCost 2)
  | .unrecognizedE3 => some (fixedCost 1)
  | .unrecognizedE4 => some (fixedCost 1)
  | .pushHl => some (fixedCost 4)
  | .andN8 _ => some (fixedCost 2)
  | .rst20 => some (fixedCost 4)
  | .addSpE8 _ => some (fixedCost 4)
  | .jpHl => some (fixedCost 1)
  | .ldIndA16A _ => some (fixedCost 4)
  | .unrecognizedEB => some (fixedCost 1)
  | .unrecognizedEC => some (fixedCost 1)
  | .unrecognizedED => some (fixedCost 1)
  | .xorN8 _ => some (fixedCost 2)
  | .rst28 => some (fixedCost 4)
  | .ldhAIndA8 _ => some (fixedCost 3)
  | .popAf => some (fixedCost 3)
  | .ldAIndC => some (fixedCost 2)
  | .di => some (fixedCost 1)
  | .unrecognizedF4 => some (fixedCost 1)
  | .pushAf => some (fixedCost 4)
  | .orN8 _ => some (fixedCost 2)
  | .rst30 => some (fixedCost 4)
  | .ldHlSpE8 _ => some (fixedCost 3)
  | .ldSpHl => some (fixedCost 2)
  | .ldAIndA16 _ => some (fixedCost 4)
  | .ei => some (fixedCost 1)
  | .unrecognizedFC => some (fixedCost 1)
  | .unrecognizedFD => some (fixedCost 1)
  | .cpN8 _ => some (fixedCost 2)
  | .rst38 => some (fixedCost 4)
  | .rlcB => some (fixedCost 2)
  | .rlcC => some (fixedCost 2)
  | .rlcD => some (fixedCost 2)
  | .rlcE => some (fixedCost 2)
  | .rlcH => some (fixedCost 2)
  | .rlcL => some (fixedCost 2)
  | .rlcIndHl => some (fixedCost 4)
  | .rlcA => some (fixedCost 2)
  | .rrcB => some (fixedCost 2)
  | .rrcC => some (fixedCost 2)
  | .rrcD => some (fixedCost 2)
  | .rrcE => some (fixedCost 2)
  | .rrcH => some (fixedCost 2)
  | .rrcL => some (fixedCost 2)
  | .rrcIndHl => some (fixedCost 4)
  | .rrcA => some (fixedCost 2)
  | .rlB => some (fixedCost 2)
  | .rlC => some (fixedCost 2)
  | .rlD => some (fixedCost 2)
  | .rlE => some (fixedCost 2)
  | .rlH => some (fixedCost 2)
  | .rlL => some (fixedCost 2)
  | .rlIndHl => some (fixedCost 4)
  | .rlA => some (fixedCost 2)
  | .rrB => some (fixedCost 2)
  | .rrC => some (fixedCost 2)
  | .rrD => some (fixedCost 2)
  | .rrE => some (fixedCost 2)
  | .rrH => some (fixedCost 2)
  | .rrL => some (fixedCost 2)
  | .rrIndHl => some (fixedCost 4)
  | .rrA => some (fixedCost 2)
  | .slaB => some (fixedCost 2)
  | .slaC => some (fixedCost 2)
  | .slaD => some (fixedCost 2)
  | .slaE => some (fixedCost 2)
  | .slaH => some (fixedCost 2)
  | .slaL => some (fixedCost 2)
  | .slaIndHl => some (fixedCost 4)
  | .slaA => some (fixedCost 2)
  | .sraB => some (fixedCost 2)
  | .sraC => some (fixedCost 2)
  | .sraD => some (fixedCost 2)
  | .sraE => some (fixedCost 2)
  | .sraH => some (fixedCost 2)
  | .sraL => some (fixedCost 2)
  | .sraIndHl => some (fixedCost 4)
  | .sraA => some (fixedCost 2)
  | .swapB => some (fixedCost 2)
  | .swapC => some (fixedCost 2)
  | .swapD => some (fixedCost 2)
  | .swapE => some (fixedCost 2)
  | .swapH => some (fixedCost 2)
  | .swapL => some (fixedCost 2)
  | .swapIndHl => some (fixedCost 4)
  | .swapA => some (fixedCost 2)
  | .srlB => some (fixedCost 2)
  | .srlC => some (fixedCost 2)
  | .srlD => some (fixedCost 2)
  | .srlE => some (fixedCost 2)
  | .srlH => some (fixedCost 2)
  | .srlL => some (fixedCost 2)
  | .srlIndHl => some (fixedCost 4)
  | .srlA => some (fixedCost 2)
  | .bit0B => some (fixedCost 2)
  | .bit0C => some (fixedCost 2)
  | .bit0D => some (fixedCost 2)
  | .bit0E => some (fixedCost 2)
  | .bit0H => some (fixedCost 2)
  | .bit0L => some (fixedCost 2)
  | .bit0IndHl => some (fixedCost 3)
  | .bit0A => some (fixedCost 2)
  | .bit1B => some (fixedCost 2)
  | .bit1C => some (fixedCost 2)
  | .bit1D => some (fixedCost 2)
  | .bit1E => some (fixedCost 2)
  | .bit1H => some (fixedCost 2)
  | .bit1L => some (fixedCost 2)
  | .bit1IndHl => some (fixedCost 3)
  | .bit1A => some (fixedCost 2)
  | .bit2B => some (fixedCost 2)
  | .bit2C => some (fixedCost 2)
  | .bit2D => some (fixedCost 2)
  | .bit2E => some (fixedCost 2)
  | .bit2H => some (fixedCost 2)
  | .bit2L => some (fixedCost 2)
  | .bit2IndHl => some (fixedCost 3)
  | .bit2A => some (fixedCost 2)
  | .bit3B => some (fixedCost 2)
  | .bit3C => some (fixedCost 2)
  | .bit3D => some (fixedCost 2)
  | .bit3E => some (fixedCost 2)
  | .bit3H => some (fixedCost 2)
  | .bit3L => some (fixedCost 2)
  | .bit3IndHl => some (fixedCost 3)
  | .bit3A => some (fixedCost 2)
  | .bit4B => some (fixedCost 2)
  | .bit4C => some (fixedCost 2)
  | .bit4D => some (fixedCost 2)
  | .bit4E => some (fixedCost 2)
  | .bit4H => some (fixedCost 2)
  | .bit4L => some (fixedCost 2)
  | .bit4IndHl => some (fixedCost 3)
  | .bit4A => some (fixedCost 2)
  | .bit5B => some (fixedCost 2)
  | .bit5C => some (fixedCost 2)
  | .bit5D => some (fixedCost 2)
  | .bit5E => some (fixedCost 2)
  | .bit5H => some (fixedCost 2)
  | .bit5L => some (fixedCost 2)
  | .bit5IndHl => some (fixedCost 3)
  | .bit5A => some (fixedCost 2)
  | .bit6B => some (fixedCost 2)
  | .bit6C => some (fixedCost 2)
  | .bit6D => some (fixedCost 2)
  | .bit6E => some (fixedCost 2)
  | .bit6H => some (fixedCost 2)
  | .bit6L => some (fixedCost 2)
  | .bit6IndHl => some (fixedCost 3)
  | .bit6A => some (fixedCost 2)
  | .bit7B => some (fixedCost 2)
  | .bit7C => some (fixedCost 2)
  | .bit7D => some (fixedCost 2)
  | .bit7E => some (fixedCost 2)
  | .bit7H => some (fixedCost 2)
  | .bit7L => some (fixedCost 2)
  | .bit7IndHl => some (fixedCost 3)
  | .bit7A => some (fixedCost 2)
  | .res0B => some (fixedCost 2)
  | .res0C => some (fixedCost 2)
  | .res0D => some (fixedCost 2)
  | .res0E => some (fixedCost 2)
  | .res0H => some (fixedCost 2)
  | .res0L => some (fixedCost 2)
  | .res0IndHl => some (fixedCost 4)
  | .res0A => some (fixedCost 2)
  | .res1B => some (fixedCost 2)
  | .res1C => some (fixedCost 2)
  | .res1D => some (fixedCost 2)
  | .res1E => some (fixedCost 2)
  | .res1H => some (fixedCost 2)
  | .res1L => some (fixedCost 2)
  | .res1IndHl => some (fixedCost 4)
  | .res1A => some (fixedCost 2)
  | .res2B => some (fixedCost 2)
  | .res2C => some (fixedCost 2)
  | .res2D => some (fixedCost 2)
  | .res2E => some (fixedCost 2)
  | .res2H => some (fixedCost 2)
  | .res2L => some (fixedCost 2)
  | .res2IndHl => some (fixedCost 4)
  | .res2A => some (fixedCost 2)
  | .res3B => some (fixedCost 2)
  | .res3C => some (fixedCost 2)
  | .res3D => some (fixedCost 2)
  | .res3E => some (fixedCost 2)
  | .res3H => some (fixedCost 2)
  | .res3L => some (fixedCost 2)
  | .res3IndHl => some (fixedCost 4)
  | .res3A => some (fixedCost 2)
  | .res4B => some (fixedCost 2)
  | .res4C => some (fixedCost 2)
  | .res4D => some (fixedCost 2)
  | .res4E => some (fixedCost 2)
  | .res4H => some (fixedCost 2)
  | .res4L => some (fixedCost 2)
  | .res4IndHl => some (fixedCost 4)
  | .res4A => some (fixedCost 2)
  | .res5B => some (fixedCost 2)
  | .res5C => some (fixedCost 2)
  | .res5D => some (fixedCost 2)
  | .res5E => some (fixedCost 2)
  | .res5H => some (fixedCost 2)
  | .res5L => some (fixedCost 2)
  | .res5IndHl => some (fixedCost 4)
  | .res5A => some (fixedCost 2)
  | .res6B => some (fixedCost 2)
  | .res6C => some (fixedCost 2)
  | .res6D => some (fixedCost 2)
  | .res6E => some (fixedCost 2)
  | .res6H => some (fixedCost 2)
  | .res6L => some (fixedCost 2)
  | .res6IndHl => some (fixedCost 4)
  | .res6A => some (fixedCost 2)
  | .res7B => some (fixedCost 2)
  | .res7C => some (fixedCost 2)
  | .res7D => some (fixedCost 2)
  | .res7E => some (fixedCost 2)
  | .res7H => some (fixedCost 2)
  | .res7L => some (fixedCost 2)
  | .res7IndHl => some (fixedCost 4)
  | .res7A => some (fixedCost 2)
  | .set0B => some (fixedCost 2)
  | .set0C => some (fixedCost 2)
  | .set0D => some (fixedCost 2)
  | .set0E => some (fixedCost 2)
  | .set0H => some (fixedCost 2)
  | .set0L => some (fixedCost 2)
  | .set0IndHl => some (fixedCost 4)
  | .set0A => some (fixedCost 2)
  | .set1B => some (fixedCost 2)
  | .set1C => some (fixedCost 2)
  | .set1D => some (fixedCost 2)
  | .set1E => some (fixedCost 2)
  | .set1H => some (fixedCost 2)
  | .set1L => some (fixedCost 2)
  | .set1IndHl => some (fixedCost 4)
  | .set1A => some (fixedCost 2)
  | .set2B => some (fixedCost 2)
  | .set2C => some (fixedCost 2)
  | .set2D => some (fixedCost 2)
  | .set2E => some (fixedCost 2)
  | .set2H => some (fixedCost 2)
  | .set2L => some (fixedCost 2)
  | .set2IndHl => some (fixedCost 4)
  | .set2A => some (fixedCost 2)
  | .set3B => some (fixedCost 2)
  | .set3C => some (fixedCost 2)
  | .set3D => some (fixedCost 2)
  | .set3E => some (fixedCost 2)
  | .set3H => some (fixedCost 2)
  | .set3L => some (fixedCost 2)
  | .set3IndHl => some (fixedCost 4)
  | .set3A => some (fixedCost 2)
  | .set4B => some (fixedCost 2)
  | .set4C => some (fixedCost 2)
  | .set4D => some (fixedCost 2)
  | .set4E => some (fixedCost 2)
  | .set4H => some (fixedCost 2)
  | .set4L => some (fixedCost 2)
  | .set4IndHl => some (fixedCost 4)
  | .set4A => some (fixedCost 2)
  | .set5B => some (fixedCost 2)
  | .set5C => some (fixedCost 2)
  | .set5D => some (fixedCost 2)
  | .set5E => some (fixedCost 2)
  | .set5H => some (fixedCost 2)
  | .set5L => some (fixedCost 2)
  | .set5IndHl => some (fixedCost 4)
  | .set5A => some (fixedCost 2)
  | .set6B => some (fixedCost 2)
  | .set6C => some (fixedCost 2)
  | .set6D => some (fixedCost 2)
  | .set6E => some (fixedCost 2)
  | .set6H => some (fixedCost 2)
  | .set6L => some (fixedCost 2)
  | .set6IndHl => some (fixedCost 4)
  | .set6A => some (fixedCost 2)
  | .set7B => some (fixedCost 2)
  | .set7C => some (fixedCost 2)
  | .set7D => some (fixedCost 2)
  | .set7E => some (fixedCost 2)
  | .set7H => some (fixedCost 2)
  | .set7L => some (fixedCost 2)
  | .set7IndHl => some (fixedCost 4)
  | .set7A => some (fixedCost 2)

/-- The cost a session's `cycle_table` gives an opcode, where it replaces the standard one. -/
def replacedCost : List CycleRow → Nat → Option Cost
  | [], _ => none
  | row :: rows, op => if row.opcode = op then some row.cost else replacedCost rows op

/-- The cost of an instruction in a state: the taken cost, or the not-taken cost of a conditional transfer whose condition is false (R334;
43_control R220). A row that a session substitutes is returned whatever its numbers, although 00_scope R7 says from 1 to 6: the spec does not
say whether such a row must keep to that. It may also replace the cost 1 that 45_misc R270 and R275 give NOP and the unrecognized opcodes:
R334 makes only the rest of the table the parameter, and 00_scope R11 the cost of every opcode. DESIGN CHOICE, log entry 11. -/
def instrCost (i : Instr) (s : State) : Option Nat :=
  match standardCycles i with
  | none => none
  | some entry =>
    let cost := (replacedCost s.params.cycleTable (opcodeNumber i)).getD entry.cost
    match entry.cond with
    | none => some cost.taken
    | some cc => some (if condHolds cc s then cost.taken else cost.notTaken)

/-- The cost `step()` returns from this state (00_scope R7; 30_encoding R110); none while HALTED, where the call is refused. -/
def stepCost (s : State) : Option Nat := if s.cpu.halted then none else instrCost (fetchInstr s) s

end Sys2Proof.Machine
end

