-- ==== Sys2Proof/Safety.lean ====
section
/-! DEFINITION. The terms claims are stated in: when a session's state is as every construction and step leaves it; what a step keeps; which
reads a store can change; which instructions write SP and F. -/

namespace Sys2Proof.Machine

/-- An image in canonical form with no byte past its end. -/
def Image.wf (i : Image) : Bool := Memory.wf i.bytes && Memory.below i.len i.bytes

/-- The parameters are those of an accepted construction (70_reset R321): the images meet its requirements, are in canonical form, and
`bank_mask` is the header byte's (20_memory R57). -/
def Params.wf (p : Params) : Bool :=
  imagesAccepted p && Image.wf p.cart &&
    (match p.boot with
      | none => true
      | some b => Image.wf b) &&
    decide (p.bankMask = bankMaskOf (imageByte p.cart 0x0148))

/-- RAM contents in canonical form, of the sizes of 10_state R35. -/
def RamInit.wf (r : RamInit) : Bool :=
  Memory.wf r.wram && Memory.wf r.hram && Memory.wf r.io &&
    Memory.below 0x2000 r.wram && Memory.below 0x7F r.hram && Memory.below 0x80 r.io

/-- What holds of a session at construction and after every step. -/
structure SessionOk (s : State) : Prop where
  /-- F[3:0] = 0 (10_state R24). -/
  lowFlagsZero : s.cpu.f &&& 0x0F#8 = 0x00#8
  wramCanonical : Memory.wf s.mmu.wram = true
  hramCanonical : Memory.wf s.mmu.hram = true
  ioCanonical : Memory.wf s.mmu.io = true
  /-- On the standard map the arrays have the sizes of 10_state R35. -/
  arraysSized : s.params.map = MapConfig.standard →
    Memory.below 0x2000 s.mmu.wram = true ∧ Memory.below 0x7F s.mmu.hram = true ∧ Memory.below 0x80 s.mmu.io = true
  /-- `bank` has no bit outside `bank_mask` (20_memory R56, R57). -/
  bankMasked : s.mmu.bank &&& ~~~s.params.bankMask = 0x00#8
  /-- The switchable window never shows bank 0 unless the parameter is false (20_memory R58). -/
  bankNotZero : s.params.zeroBankRemap = true → s.mmu.bank ≠ 0x00#8
  /-- The overlay is mapped only if a boot image was supplied (10_state R34). -/
  bootSupplied : s.mmu.bootMapped = true → s.params.boot.isSome = true
  paramsOk : Params.wf s.params = true

/-- Every 8-bit register outside `written` keeps its value. -/
def KeepsRegs (written : List Reg8) (s t : State) : Prop := ∀ r, r ∉ written → getReg r t = getReg r s

/-- F keeps its value. -/
def KeepsFlags (s t : State) : Prop := t.cpu.f = s.cpu.f

/-- SP keeps its value. -/
def KeepsSp (s t : State) : Prop := t.cpu.sp = s.cpu.sp

/-- `ime` and `halted` keep their values. -/
def KeepsControl (s t : State) : Prop := t.cpu.ime = s.cpu.ime ∧ t.cpu.halted = s.cpu.halted

/-- The MMU state and the parameters are unchanged, and every address reads as before. -/
def KeepsMemory (s t : State) : Prop :=
  t.mmu = s.mmu ∧ t.params = s.params ∧ ∀ a, readByte t a = readByte s a

/-- Nothing but PC, F and the 8-bit registers in `written` changes. -/
def KeepsAllBut (written : List Reg8) (s t : State) : Prop :=
  KeepsRegs written s t ∧ KeepsSp s t ∧ KeepsControl s t ∧ KeepsMemory s t

/-- The four flags become these, and F[3:0] keeps its value. -/
def FlagsBecome (s t : State) (z n h c : Bool) : Prop :=
  flagZ t = z ∧ flagN t = n ∧ flagH t = h ∧ flagC t = c ∧ t.cpu.f &&& 0x0F#8 = s.cpu.f &&& 0x0F#8

/-- The cell of `wram` behind an address of WRAM or ECHO (20_memory R62, R63). -/
def wramCell (m : MapConfig) (a : Word) : Option Nat :=
  match regionOf m a with
  | .wram => some (wramIndex m a)
  | .echo => some (echoIndex m a)
  | .bootRom0 => none
  | .rom0 => none
  | .romx => none
  | .vram => none
  | .extram => none
  | .oam => none
  | .unusable => none
  | .io => none
  | .hram => none
  | .ie => none

/-- A write at `a` may change what a read at `b` returns (20_memory R53, R69): the same storage byte; the switchable bank for a bank-select
write; the overlaid addresses for a boot-disable write. On a map other than the standard one, which addresses share a byte and which are
overlaid is the model's choice (log entries 6 and 10). -/
def StoreTouches (p : Params) (a b : Word) : Prop :=
  match regionOf p.map a with
  | .bootRom0 => regionOf p.map b = .romx
  | .rom0 => regionOf p.map b = .romx
  | .wram => wramCell p.map b = wramCell p.map a
  | .echo => wramCell p.map b = wramCell p.map a
  | .io =>
    match ioKindOf p a with
    | .storage => b = a
    | .bootDisable => regionOf p.map b = .bootRom0
    | .stub _ => False
    | .unmapped => False
  | .hram => b = a
  | .ie => regionOf p.map b = .ie
  | .romx => False
  | .vram => False
  | .extram => False
  | .oam => False
  | .unusable => False

/-- The MMU is as after `write_byte(a, v)`, and every address that write does not touch reads as before. -/
def StoresByte (s t : State) (a : Word) (v : Byte) : Prop :=
  t.mmu = mmuWrite s.params s.mmu a v ∧ t.params = s.params ∧
    ∀ b, ¬ StoreTouches s.params a b → readByte t b = readByte s b

/-- The MMU is as after the two byte writes of `write_word(a, v)`, low byte first, and every address neither of them touches reads as
before. -/
def StoresWord (s t : State) (a : Word) (v : Word) : Prop :=
  t.mmu = mmuWrite s.params (mmuWrite s.params s.mmu a (v.setWidth 8)) (a + 1#16) ((v >>> 8).setWidth 8) ∧
    t.params = s.params ∧
    ∀ b, ¬ StoreTouches s.params a b → ¬ StoreTouches s.params (a + 1#16) b → readByte t b = readByte s b

/-- An address backed by a storage byte: what is written there is read there (20_memory R62, R63, R65, R67, R68). -/
def IsStorage (p : Params) (a : Word) : Prop :=
  match regionOf p.map a with
  | .wram => True
  | .echo => True
  | .hram => True
  | .ie => True
  | .io => ioKindOf p a = .storage
  | .bootRom0 => False
  | .rom0 => False
  | .romx => False
  | .vram => False
  | .extram => False
  | .oam => False
  | .unusable => False

/-- The instructions that write SP (10_state R29). -/
def WritesSp (i : Instr) : Prop :=
  (∃ q, i = Instr.push q) ∨ (∃ q, i = Instr.pop q) ∨ (∃ a, i = .callA16 a) ∨ (∃ cc a, i = Instr.callCond cc a) ∨
    i = .ret ∨ (∃ cc, i = Instr.retCond cc) ∨ i = .reti ∨ (∃ k, i = Instr.rst k) ∨ (∃ n, i = .ldSpN16 n) ∨
    i = .ldSpHl ∨ (∃ e, i = .addSpE8 e) ∨ i = .incSp ∨ i = .decSp

/-- The instructions whose rule writes a flag (40_loads to 45_misc, the "Flags" lines; the bare prefix stands for the CB instructions). -/
def WritesFlags (i : Instr) : Prop :=
  (∃ op x, i = Instr.alu op x) ∨ (∃ op n, i = Instr.aluN8 op n) ∨ (∃ x, i = Instr.inc x) ∨ (∃ x, i = Instr.dec x) ∨
    i = .daa ∨ i = .cpl ∨ i = .scf ∨ i = .ccf ∨ i = .rlca ∨ i = .rrca ∨ i = .rla ∨ i = .rra ∨
    (∃ rr, i = Instr.addHlPair rr) ∨ (∃ e, i = .addSpE8 e) ∨ (∃ e, i = .ldHlSpE8 e) ∨ i = .popAf ∨
    (∃ op x, i = Instr.shift op x) ∨ (∃ b x, i = Instr.bit b x) ∨ i = .prefixCb

end Sys2Proof.Machine
end

