-- ==== Sys2Proof/Certificates/Slice0/Obligations.lean ====
section
/-! DEFINITION. The statements for the provers, each from the numbered rules of the spec it names. `s` is any state, not only one a run
reaches, and the parameters of the session are any, unless a statement says otherwise. -/

open Sys2Proof Sys2Proof.Machine

/-! ## Encoding and the step -/

/-- R104, R107, R111. Decoding the encoding of a whole instruction, whatever follows it, gives the instruction and what follows. -/
def Obligations.DecodeOfEncode : Prop :=
  ∀ (i : Instr) (rest : List Byte), i.wellFormed = true → decode (encode i ++ rest) = .ok (i, rest)

/-- R107. The bytes an instruction is decoded from are its encoding: each byte list has one meaning. -/
def Obligations.EncodeOfDecode : Prop :=
  ∀ (bs : List Byte) (i : Instr) (rest : List Byte), decode bs = .ok (i, rest) → encode i ++ rest = bs

/-- R107 (which the spec derives from R90, R104 and R105). Every three bytes decode to a whole instruction of 1 to 3 bytes, followed by the bytes it does not use; the first byte alone
fixes the length, and 0xCB gives 2. -/
def Obligations.DecodeIsTotal : Prop :=
  ∀ (op b1 b2 : Byte) (tail : List Byte),
    (∃ i, decode (op :: b1 :: b2 :: tail) = .ok (i, (op :: b1 :: b2 :: tail).drop (encode i).length) ∧
      i = decode3 op b1 b2 ∧ i.wellFormed = true ∧ 1 ≤ (encode i).length ∧ (encode i).length ≤ 3) ∧
    (∀ c1 c2 : Byte, (encode (decode3 op c1 c2)).length = (encode (decode3 op b1 b2)).length) ∧
    (op = 0xCB#8 → (encode (decode3 op b1 b2)).length = 2)

/-- R92 to R96, R98 to R102, R104, R105. Words written out bit by bit from the encodings of 40_loads to 45_misc. -/
def Obligations.KnownWordsDecode : Prop :=
  decode [0b01000001#8] = .ok (.ldBC, []) ∧
  decode [0b00100001#8, 0x00#8, 0xC0#8] = .ok (.ldHlN16 0xC000#16, []) ∧
  decode [0b11110101#8] = .ok (.pushAf, []) ∧
  decode [0b10000110#8] = .ok (.addAIndHl, []) ∧
  decode [0b11010110#8, 0x0F#8] = .ok (.subN8 0x0F#8, []) ∧
  decode [0b00111001#8] = .ok (.addHlSp, []) ∧
  decode [0b00100000#8, 0xFB#8] = .ok (.jrNzE8 0xFB#8, []) ∧
  decode [0b11101111#8] = .ok (.rst28, []) ∧
  decode [0xCB#8, 0b01111111#8] = .ok (.bit7A, []) ∧
  decode [0xCB#8, 0b00100110#8] = .ok (.slaIndHl, []) ∧
  decode [0b01110110#8] = .ok (.halt, []) ∧
  decode [0b11010011#8] = .ok (.unrecognizedD3, [])

/-- The field `r` of a register (R92). -/
def Sys2Proof.Machine.fieldOfReg (r : Reg8) : Nat := r.pick 0 1 2 3 4 5 7

/-- The 8-bit operand field of an operand (R92). -/
def Sys2Proof.Machine.fieldOfLoc (x : Loc) : Nat := x.pick 0 1 2 3 4 5 6 7

/-- The pair field of the load and arithmetic group (R93). -/
def Sys2Proof.Machine.fieldOfPair (rr : Reg16) : Nat := rr.pick 0 1 2 3

/-- The pair field of the stack group (R94). -/
def Sys2Proof.Machine.fieldOfStackPair (q : StackPair) : Nat := q.pick 0 1 2 3

/-- The condition field (R95). -/
def Sys2Proof.Machine.fieldOfCond (cc : Cond) : Nat := cc.pick 0 1 2 3

/-- The ALU operation field (R96). -/
def Sys2Proof.Machine.fieldOfAlu (op : AluOp) : Nat :=
  match op with
  | .add => 0
  | .adc => 1
  | .sub => 2
  | .sbc => 3
  | .and => 4
  | .xor => 5
  | .or => 6
  | .cp => 7

/-- The operation field of the rotate and shift group (R104). -/
def Sys2Proof.Machine.fieldOfShift (op : ShiftOp) : Nat :=
  match op with
  | .rlc => 0
  | .rrc => 1
  | .rl => 2
  | .rr => 3
  | .sla => 4
  | .sra => 5
  | .swap => 6
  | .srl => 7

/-- R92, R96, R100, R101. Blocks x = 1 and x = 2 of the primary map by their fields y and z. -/
def Obligations.LoadAndAluBlocksByField : Prop :=
  ∀ (dst r : Reg8) (op : AluOp) (x : Loc) (b1 b2 : Byte),
    decode3 (BitVec.ofNat 8 (0x40 + 8 * fieldOfReg dst + fieldOfReg r)) b1 b2 = Instr.ldReg dst r ∧
    decode3 (BitVec.ofNat 8 (0x40 + 8 * fieldOfReg dst + 6)) b1 b2 = Instr.ldRegIndHl dst ∧
    decode3 (BitVec.ofNat 8 (0x40 + 8 * 6 + fieldOfReg r)) b1 b2 = Instr.ldIndHlReg r ∧
    decode3 (BitVec.ofNat 8 (0x40 + 8 * 6 + 6)) b1 b2 = .halt ∧
    decode3 (BitVec.ofNat 8 (0x80 + 8 * fieldOfAlu op + fieldOfLoc x)) b1 b2 = Instr.alu op x

/-- R93, R94, R95, R97, R99, R102, R105. Blocks x = 0 and x = 3 of the primary map by their fields, all their opcodes. -/
def Obligations.OuterBlocksByField : Prop :=
  ∀ (b1 b2 : Byte),
    (∀ rr : Reg16,
      decode3 (BitVec.ofNat 8 (0x01 + 16 * fieldOfPair rr)) b1 b2 = Instr.ldPairN16 rr (b2 ++ b1) ∧
      decode3 (BitVec.ofNat 8 (0x09 + 16 * fieldOfPair rr)) b1 b2 = Instr.addHlPair rr ∧
      decode3 (BitVec.ofNat 8 (0x03 + 16 * fieldOfPair rr)) b1 b2 = Instr.incPair rr ∧
      decode3 (BitVec.ofNat 8 (0x0B + 16 * fieldOfPair rr)) b1 b2 = Instr.decPair rr) ∧
    (∀ q : StackPair,
      decode3 (BitVec.ofNat 8 (0xC1 + 16 * fieldOfStackPair q)) b1 b2 = Instr.pop q ∧
      decode3 (BitVec.ofNat 8 (0xC5 + 16 * fieldOfStackPair q)) b1 b2 = Instr.push q) ∧
    (∀ cc : Cond,
      decode3 (BitVec.ofNat 8 (0x20 + 8 * fieldOfCond cc)) b1 b2 = Instr.jrCond cc b1 ∧
      decode3 (BitVec.ofNat 8 (0xC0 + 8 * fieldOfCond cc)) b1 b2 = Instr.retCond cc ∧
      decode3 (BitVec.ofNat 8 (0xC2 + 8 * fieldOfCond cc)) b1 b2 = Instr.jpCond cc (b2 ++ b1) ∧
      decode3 (BitVec.ofNat 8 (0xC4 + 8 * fieldOfCond cc)) b1 b2 = Instr.callCond cc (b2 ++ b1)) ∧
    (∀ x : Loc,
      decode3 (BitVec.ofNat 8 (0x04 + 8 * fieldOfLoc x)) b1 b2 = Instr.inc x ∧
      decode3 (BitVec.ofNat 8 (0x05 + 8 * fieldOfLoc x)) b1 b2 = Instr.dec x) ∧
    (∀ dst : Reg8, decode3 (BitVec.ofNat 8 (0x06 + 8 * fieldOfReg dst)) b1 b2 = Instr.ldRegN8 dst b1) ∧
    (∀ op : AluOp, decode3 (BitVec.ofNat 8 (0xC6 + 8 * fieldOfAlu op)) b1 b2 = Instr.aluN8 op b1) ∧
    (∀ t : Fin 8, decode3 (BitVec.ofNat 8 (0xC7 + 8 * t.val)) b1 b2 = Instr.rst t) ∧
    [0x02, 0x12, 0x22, 0x32, 0x0A, 0x1A, 0x2A, 0x3A].map (fun op => decode3 (BitVec.ofNat 8 op) b1 b2) =
      [.ldIndBcA, .ldIndDeA, .ldIndHlIncA, .ldIndHlDecA, .ldAIndBc, .ldAIndDe, .ldAIndHlInc, .ldAIndHlDec] ∧
    [0x00, 0x08, 0x10, 0x18, 0x36, 0x07, 0x0F, 0x17, 0x1F, 0x27, 0x2F, 0x37, 0x3F].map
        (fun op => decode3 (BitVec.ofNat 8 op) b1 b2) =
      [.nop, .ldIndA16Sp (b2 ++ b1), .stop b1, .jrE8 b1, .ldIndHlN8 b1, .rlca, .rrca, .rla, .rra, .daa, .cpl,
        .scf, .ccf] ∧
    [0xE0, 0xE8, 0xF0, 0xF8, 0xC9, 0xD9, 0xE9, 0xF9, 0xE2, 0xEA, 0xF2, 0xFA, 0xC3, 0xF3, 0xFB, 0xCD].map
        (fun op => decode3 (BitVec.ofNat 8 op) b1 b2) =
      [.ldhIndA8A b1, .addSpE8 b1, .ldhAIndA8 b1, .ldHlSpE8 b1, .ret, .reti, .jpHl, .ldSpHl, .ldIndCA,
        .ldIndA16A (b2 ++ b1), .ldAIndC, .ldAIndA16 (b2 ++ b1), .jpA16 (b2 ++ b1), .di, .ei, .callA16 (b2 ++ b1)] ∧
    [0xD3, 0xDB, 0xDD, 0xE3, 0xE4, 0xEB, 0xEC, 0xED, 0xF4, 0xFC, 0xFD].map
        (fun op => decode3 (BitVec.ofNat 8 op) b1 b2) =
      [0, 1, 2, 3, 4, 5, 6, 7, 8, 9, 10].map Instr.unrecognized

/-- R92, R104. The CB map by the fields x, y and z of its opcode. -/
def Obligations.CbMapByField : Prop :=
  ∀ (op : ShiftOp) (b : Fin 8) (x : Loc) (b2 : Byte),
    decode3 0xCB#8 (BitVec.ofNat 8 (8 * fieldOfShift op + fieldOfLoc x)) b2 = Instr.shift op x ∧
    decode3 0xCB#8 (BitVec.ofNat 8 (0x40 + 8 * b.val + fieldOfLoc x)) b2 = Instr.bit b x ∧
    decode3 0xCB#8 (BitVec.ofNat 8 (0x80 + 8 * b.val + fieldOfLoc x)) b2 = Instr.res b x ∧
    decode3 0xCB#8 (BitVec.ofNat 8 (0xC0 + 8 * b.val + fieldOfLoc x)) b2 = Instr.set b x

/-- From R110, R27 and R69 by the model's inference (DEDUCED, log entry 8): R110 fetches byte by byte and moves PC with each, where the model
reads three bytes at once. While RUNNING, if the bytes at PC, PC + 1 and PC + 2 decode to a whole instruction, the step is that
instruction's `exec` at this very state: its meaning starts with PC at the opcode and moves PC past the instruction's bytes itself, and the
step adds nothing. -/
def Obligations.StepRunsDecodedInstruction : Prop :=
  ∀ (s : State) (i : Instr) (rest : List Byte),
    s.cpu.halted = false → i.wellFormed = true →
    decode [readByte s s.cpu.pc, readByte s (s.cpu.pc + 1#16), readByte s (s.cpu.pc + 2#16)] = .ok (i, rest) →
    step s = exec i s

/-- R335, R336, R271. A step is refused exactly while HALTED; otherwise it answers a next state. -/
def Obligations.StepRefusedExactlyWhileHalted : Prop :=
  ∀ s : State,
    (s.cpu.halted = true → step s = .refused .stepWhileHalted) ∧
    (s.cpu.halted = false → ∃ t, step s = .next t)

/-- From R104 and R110 by the model's inference (DEDUCED, log entry 4): R104 calls byte 0xCB alone a prefix and not an instruction, and that the
table's bare row has a meaning of its own is the model's choice. That meaning fetches the byte after the prefix and executes the CB
instruction that byte names, as the step of R110 does. -/
def Obligations.PrefixRunsCbInstruction : Prop :=
  ∀ s : State, ∃ t, exec .prefixCb s = .next t ∧
    exec (decode3 0xCB#8 (readByte s (s.cpu.pc + 1#16)) 0x00#8) s = .next t

/-- R300. No instruction raises anything: every instruction answers a next state, in every state. -/
def Obligations.EveryInstructionCompletes : Prop := ∀ (i : Instr) (s : State), ∃ t, exec i s = .next t

/-! ## Memory -/

/-- R51, R52, R54, R55, R60 to R68. What every address reads as on the standard map, by the kind of an I/O address; and the default catalog's
kinds. The overlay is mapped only where a boot image was supplied, as SessionOk says (R34). -/
def Obligations.ReadByteByAddress : Prop :=
  ∀ (s : State) (a : Word), s.params.map = MapConfig.standard → (s.mmu.bootMapped = true → s.params.boot.isSome = true) →
    (s.params.ioKinds = [] → ioKindOf s.params a = if a.toNat = 0xFF50 then .bootDisable else .storage) ∧
    readByte s a =
      (let n := a.toNat
       if n ≤ 0x3FFF then
         match s.mmu.bootMapped, s.params.boot with
         | true, some boot => if n ≤ 0x00FF then imageByte boot n else imageByte s.params.cart n
         | _, _ => imageByte s.params.cart n
       else if n ≤ 0x7FFF then
         (if s.mmu.bank.toNat * 0x4000 + (n - 0x4000) < s.params.cart.len then
            Memory.read s.params.cart.bytes (s.mmu.bank.toNat * 0x4000 + (n - 0x4000))
          else 0xFF#8)
       else if n ≤ 0x9FFF then s.params.videoRead
       else if n ≤ 0xBFFF then 0xFF#8
       else if n ≤ 0xDFFF then Memory.read s.mmu.wram (n - 0xC000)
       else if n ≤ 0xFDFF then Memory.read s.mmu.wram (n - 0xE000)
       else if n ≤ 0xFE9F then s.params.videoRead
       else if n ≤ 0xFEFF then 0xFF#8
       else if n ≤ 0xFF7F then
         match ioKindOf s.params a with
         | .storage => Memory.read s.mmu.io (n - 0xFF00)
         | .stub v => v
         | .unmapped => 0xFF#8
         | .bootDisable => 0xFF#8
       else if n ≤ 0xFFFE then Memory.read s.mmu.hram (n - 0xFF80)
       else s.mmu.ie)

/-- R51, R53, R56, R58, R59 to R68. What a write changes, by address, on the standard map, by the kind of an I/O address. -/
def Obligations.WriteByteByAddress : Prop :=
  ∀ (s : State) (a : Word) (v : Byte), s.params.map = MapConfig.standard →
    (writeByte s a v).cpu = s.cpu ∧ (writeByte s a v).params = s.params ∧
    (writeByte s a v).mmu =
      (let n := a.toNat
       if n ≤ 0x3FFF then
         { s.mmu with bank :=
             if s.params.zeroBankRemap = true ∧ v &&& s.params.bankMask = 0x00#8 then 0x01#8
             else v &&& s.params.bankMask }
       else if n ≤ 0xBFFF then s.mmu
       else if n ≤ 0xDFFF then { s.mmu with wram := Memory.write s.mmu.wram (n - 0xC000) v }
       else if n ≤ 0xFDFF then { s.mmu with wram := Memory.write s.mmu.wram (n - 0xE000) v }
       else if n ≤ 0xFEFF then s.mmu
       else if n ≤ 0xFF7F then
         match ioKindOf s.params a with
         | .storage => { s.mmu with io := Memory.write s.mmu.io (n - 0xFF00) v }
         | .stub _ => s.mmu
         | .unmapped => s.mmu
         | .bootDisable => if v = 0x00#8 then s.mmu else { s.mmu with bootMapped := false }
       else if n ≤ 0xFFFE then { s.mmu with hram := Memory.write s.mmu.hram (n - 0xFF80) v }
       else { s.mmu with ie := v })

/-- R63, with `echo_end` at `e`. An echo address and the WRAM address 0x2000 below it are one storage byte: both read the same, and a write at
either is a write at the other. From `e` + 1 to 0xFDFF the addresses are UNUSABLE: they read 0xFF and a write changes nothing. -/
def Obligations.EchoAliasesWorkingRam : Prop :=
  ∀ (s : State) (e : Nat) (a : Word) (v : Byte), s.params.map = { MapConfig.standard with echoEnd := e } →
    0xE000 ≤ a.toNat → a.toNat ≤ 0xFDFF →
    (a.toNat ≤ e →
      readByte s a = readByte s (a - 0x2000#16) ∧
      writeByte s a v = writeByte s (a - 0x2000#16) v ∧
      readByte (writeByte s a v) a = v ∧ readByte (writeByte s a v) (a - 0x2000#16) = v) ∧
    (e < a.toNat → readByte s a = 0xFF#8 ∧ writeByte s a v = s)

/-- R66, R54. On the standard map, with 0xFF50 the boot-disable address: it reads 0xFF; a write of 0x00 there has no effect; a nonzero write unmaps
the overlay, so 0x0000..0x00FF read the cartridge; and no later write of any value there changes anything. -/
def Obligations.BootUnmapIsOneShot : Prop :=
  ∀ (s : State) (v w : Byte), s.params.map = MapConfig.standard → ioKindOf s.params 0xFF50#16 = .bootDisable →
    readByte s 0xFF50#16 = 0xFF#8 ∧ writeByte s 0xFF50#16 0x00#8 = s ∧
    (v ≠ 0x00#8 →
      writeByte s 0xFF50#16 v = { s with mmu := { s.mmu with bootMapped := false } } ∧
      (∀ a : Word, a.toNat ≤ 0x00FF →
        readByte (writeByte s 0xFF50#16 v) a = imageByte s.params.cart a.toNat) ∧
      writeByte (writeByte s 0xFF50#16 v) 0xFF50#16 w = writeByte s 0xFF50#16 v)

/-- R53, R69. A write changes nothing but the MMU, and leaves every address it does not touch reading as before. On the standard map, with any
`echo_end` up to 0xFDFF and any catalog in which only 0xFF50 is BootDisable, what a write touches is the spec's; that another address may be
BootDisable is the model's choice (log entry 12); on another map it is the model's choice, through its indexes (log entry 6)
and its overlaid addresses (log entry 10), both DESIGN CHOICE. -/
def Obligations.WriteByteFrame : Prop :=
  ∀ (s : State) (a b : Word) (v : Byte),
    (writeByte s a v).cpu = s.cpu ∧ (writeByte s a v).params = s.params ∧
    (¬ StoreTouches s.params a b → readByte (writeByte s a v) b = readByte s b)

/-- R62, R63, R65, R67, R68, R79. An address backed by storage reads the byte written last. On a map other than the standard one, which byte backs
an address is the model's choice (DESIGN CHOICE, log entry 6). -/
def Obligations.StoredByteReadsBack : Prop :=
  ∀ (s : State) (a : Word) (v : Byte), IsStorage s.params a → readByte (writeByte s a v) a = v

/-- R70, R71, and R73 (which the spec derives from them). Words are little-endian: a word read anywhere joins the two bytes, modulo 2^16; a word written is its low byte written, then
its high byte one above; and on the standard map a word written to two addresses backed by storage shows its low byte at the first and its
high byte at the second, and reads back. -/
def Obligations.WordsAreLittleEndian : Prop :=
  ∀ (s : State) (a : Word) (v : Word),
    (readWord s a).toNat = (readByte s a).toNat + 256 * (readByte s (a + 1#16)).toNat ∧
    writeWord s a v = writeByte (writeByte s a (v.setWidth 8)) (a + 1#16) ((v >>> 8).setWidth 8) ∧
    (s.params.map = MapConfig.standard → IsStorage s.params a → IsStorage s.params (a + 1#16) →
      (readByte (writeWord s a v) a).toNat = v.toNat % 256 ∧
      (readByte (writeWord s a v) (a + 1#16)).toNat = v.toNat / 256 ∧
      readWord (writeWord s a v) a = v)

/-- R76 (which the spec derives from R53). Writing the same value twice to an address is writing it once, bank-select and boot-disable writes too. On a
map other than the standard one, which byte a write reaches is the model's choice (DESIGN CHOICE, log entry 6). -/
def Obligations.WritesAreIdempotent : Prop :=
  ∀ (s : State) (a : Word) (v : Byte), writeByte (writeByte s a v) a v = writeByte s a v

/-! ## Construction and reset -/

/-- R57, R320 to R323, R37 to R39. Construction is refused exactly for a short cartridge or a boot image that is not 256 bytes; otherwise the
session has the register state of its fork, bank 1, the overlay mapped exactly with a boot image, RAM as given, and the header byte's mask. -/
def Obligations.ConstructionSetsTheSession : Prop :=
  ∀ (p : Params) (ram : RamInit),
    (construct p ram = none ↔ (p.cart.len < 0x4000 ∨ ∃ b, p.boot = some b ∧ b.len ≠ 256)) ∧
    ∀ s, construct p ram = some s →
      (p.boot = none →
        regAF s = 0x01B0#16 ∧ regBC s = 0x0013#16 ∧ regDE s = 0x00D8#16 ∧ regHL s = 0x014D#16 ∧
        s.cpu.sp = 0xFFFE#16 ∧ s.cpu.pc = 0x0100#16) ∧
      (p.boot ≠ none →
        regAF s = 0x0000#16 ∧ regBC s = 0x0000#16 ∧ regDE s = 0x0000#16 ∧ regHL s = 0x0000#16 ∧
        s.cpu.sp = 0x0000#16 ∧ s.cpu.pc = 0x0000#16) ∧
      s.cpu.ime = false ∧ s.cpu.halted = false ∧ s.mmu.bank = 0x01#8 ∧
      (s.mmu.bootMapped = true ↔ p.boot ≠ none) ∧
      s.mmu.wram = ram.wram ∧ s.mmu.hram = ram.hram ∧ s.mmu.io = ram.io ∧ s.mmu.ie = ram.ie ∧
      s.params.cart = p.cart ∧ s.params.boot = p.boot ∧
      s.params.bankMask.toNat =
        (if (imageByte p.cart 0x0148).toNat ≤ 6 then 2 * 2 ^ (imageByte p.cart 0x0148).toNat - 1 else 0xFF)

/-- R37. The registers of State.reset, which is the construction without a boot image. -/
def Obligations.ResetRegisters : Prop :=
  regAF State.reset = 0x01B0#16 ∧ regBC State.reset = 0x0013#16 ∧ regDE State.reset = 0x00D8#16 ∧
  regHL State.reset = 0x014D#16 ∧ State.reset.cpu.sp = 0xFFFE#16 ∧ State.reset.cpu.pc = 0x0100#16 ∧
  State.reset.cpu.ime = false ∧ State.reset.cpu.halted = false ∧
  (flagZ State.reset, flagN State.reset, flagH State.reset, flagC State.reset) = (true, false, true, true)

/-! ## Invariants and whole-machine rules -/

/-- R24, R33, R34, R35, R56, R58. Every step from a session in order leaves a session in order. -/
def Obligations.StepKeepsSessionOk : Prop := ∀ s t : State, SessionOk s → step s = .next t → SessionOk t

/-- State.reset is a session in order. It rests on the model's blank cartridge and RAM (log entries 1 and 3). -/
def Obligations.ResetSessionOk : Prop := SessionOk State.reset

/-- R321. Every accepted construction from images and RAM contents in canonical form is a session in order. -/
def Obligations.ConstructedSessionOk : Prop :=
  ∀ (p : Params) (ram : RamInit) (s : State),
    Image.wf p.cart = true → (∀ b, p.boot = some b → Image.wf b = true) → RamInit.wf ram = true →
    construct p ram = some s → SessionOk s

/-- 10_state's introduction, R31, R34, R57. No step changes the session's parameters (the images and the bank mask among them) or maps the
overlay again; a step never starts in HALTED; and a step leaves `bank` as it was or at a value a bank-select write leaves. -/
def Obligations.StepKeepsParamsAndOneWayState : Prop :=
  ∀ s t : State, step s = .next t →
    t.params = s.params ∧ (s.mmu.bootMapped = false → t.mmu.bootMapped = false) ∧ s.cpu.halted = false ∧
    (t.mmu.bank = s.mmu.bank ∨ ∃ v, t.mmu.bank = selectBank s.params v)

/-- R30. DI clears `ime`, EI and RETI set it, and no other instruction writes it. -/
def Obligations.OnlyDiEiRetiWriteIme : Prop :=
  ∀ (i : Instr) (s t : State), exec i s = .next t →
    t.cpu.ime = (if i = .di then false else if i = .ei ∨ i = .reti then true else s.cpu.ime)

/-- R31. HALT sets `halted`, and STOP when `stop_mode` is halt; no other instruction writes it and nothing clears it. -/
def Obligations.OnlyHaltAndStopWriteHalted : Prop :=
  ∀ (i : Instr) (s t : State), exec i s = .next t →
    (t.cpu.halted = true ↔
      s.cpu.halted = true ∨ i = .halt ∨ ((∃ b, i = .stop b) ∧ s.params.stopMode = .halt))

/-- R29. SP is written by the instructions the rule lists and by no other. -/
def Obligations.OnlyListedInstructionsWriteSp : Prop :=
  ∀ (i : Instr) (s t : State), ¬ WritesSp i → exec i s = .next t → t.cpu.sp = s.cpu.sp

/-- R25. An instruction whose rule documents no flag leaves all of F. -/
def Obligations.UndocumentedFlagsKept : Prop :=
  ∀ (i : Instr) (s t : State), ¬ WritesFlags i → exec i s = .next t → t.cpu.f = s.cpu.f

/-! ## Loads, stores and stack -/

/-- R121, R122, R123. LD r,r'; LD r,n8; LD r,(HL), for every register. -/
def Obligations.LoadRegisterForms : Prop :=
  ∀ (dst r : Reg8) (n : Byte) (s : State),
    (∃ t, exec (Instr.ldReg dst r) s = .next t ∧ getReg dst t = getReg r s ∧
      KeepsAllBut [dst] s t ∧ KeepsFlags s t ∧ t.cpu.pc = s.cpu.pc + 1#16) ∧
    (∃ t, exec (Instr.ldRegN8 dst n) s = .next t ∧ getReg dst t = n ∧
      KeepsAllBut [dst] s t ∧ KeepsFlags s t ∧ t.cpu.pc = s.cpu.pc + 2#16) ∧
    (∃ t, exec (Instr.ldRegIndHl dst) s = .next t ∧ getReg dst t = readByte s (regHL s) ∧
      KeepsAllBut [dst] s t ∧ KeepsFlags s t ∧ t.cpu.pc = s.cpu.pc + 1#16)

/-- R124, R125. LD (HL),r and LD (HL),n8 store one byte at HL. -/
def Obligations.StoreAtHlForms : Prop :=
  ∀ (r : Reg8) (n : Byte) (s : State),
    (∃ t, exec (Instr.ldIndHlReg r) s = .next t ∧ StoresByte s t (regHL s) (getReg r s) ∧
      t.cpu = { s.cpu with pc := s.cpu.pc + 1#16 }) ∧
    (∃ t, exec (.ldIndHlN8 n) s = .next t ∧ StoresByte s t (regHL s) n ∧
      t.cpu = { s.cpu with pc := s.cpu.pc + 2#16 })

/-- R126, R127, R134, R136, R138. A from (BC), (DE), (a16), 0xFF00 + a8 and 0xFF00 + C: A and PC change, nothing else. -/
def Obligations.LoadAccumulatorForms : Prop :=
  ∀ (s : State) (a : Word) (n : Byte),
    (∃ t, exec .ldAIndBc s = .next t ∧ KeepsMemory s t ∧
      t.cpu = { s.cpu with a := readByte s (s.cpu.b ++ s.cpu.c), pc := s.cpu.pc + 1#16 }) ∧
    (∃ t, exec .ldAIndDe s = .next t ∧ KeepsMemory s t ∧
      t.cpu = { s.cpu with a := readByte s (s.cpu.d ++ s.cpu.e), pc := s.cpu.pc + 1#16 }) ∧
    (∃ t, exec (.ldAIndA16 a) s = .next t ∧ KeepsMemory s t ∧
      t.cpu = { s.cpu with a := readByte s a, pc := s.cpu.pc + 3#16 }) ∧
    (∃ t, exec (.ldhAIndA8 n) s = .next t ∧ KeepsMemory s t ∧
      t.cpu = { s.cpu with a := readByte s (0xFF00#16 + n.setWidth 16), pc := s.cpu.pc + 2#16 }) ∧
    (∃ t, exec .ldAIndC s = .next t ∧ KeepsMemory s t ∧
      t.cpu = { s.cpu with a := readByte s (0xFF00#16 + s.cpu.c.setWidth 16), pc := s.cpu.pc + 1#16 })

/-- R128, R129, R135, R137, R139. A to (BC), (DE), (a16), 0xFF00 + a8 and 0xFF00 + C: one byte store, and PC. -/
def Obligations.StoreAccumulatorForms : Prop :=
  ∀ (s : State) (a : Word) (n : Byte),
    (∃ t, exec .ldIndBcA s = .next t ∧ StoresByte s t (s.cpu.b ++ s.cpu.c) s.cpu.a ∧
      t.cpu = { s.cpu with pc := s.cpu.pc + 1#16 }) ∧
    (∃ t, exec .ldIndDeA s = .next t ∧ StoresByte s t (s.cpu.d ++ s.cpu.e) s.cpu.a ∧
      t.cpu = { s.cpu with pc := s.cpu.pc + 1#16 }) ∧
    (∃ t, exec (.ldIndA16A a) s = .next t ∧ StoresByte s t a s.cpu.a ∧
      t.cpu = { s.cpu with pc := s.cpu.pc + 3#16 }) ∧
    (∃ t, exec (.ldhIndA8A n) s = .next t ∧ StoresByte s t (0xFF00#16 + n.setWidth 16) s.cpu.a ∧
      t.cpu = { s.cpu with pc := s.cpu.pc + 2#16 }) ∧
    (∃ t, exec .ldIndCA s = .next t ∧ StoresByte s t (0xFF00#16 + s.cpu.c.setWidth 16) s.cpu.a ∧
      t.cpu = { s.cpu with pc := s.cpu.pc + 1#16 })

/-- R130 to R133. LD A,(HL+), LD A,(HL-), LD (HL+),A, LD (HL-),A: the access is at the old HL, then HL steps by one modulo 2^16. -/
def Obligations.AutoStepForms : Prop :=
  ∀ s : State,
    (∃ t, exec .ldAIndHlInc s = .next t ∧ getReg .a t = readByte s (regHL s) ∧ regHL t = regHL s + 1#16 ∧
      KeepsAllBut [.a, .h, .l] s t ∧ KeepsFlags s t ∧ t.cpu.pc = s.cpu.pc + 1#16) ∧
    (∃ t, exec .ldAIndHlDec s = .next t ∧ getReg .a t = readByte s (regHL s) ∧ regHL t = regHL s - 1#16 ∧
      KeepsAllBut [.a, .h, .l] s t ∧ KeepsFlags s t ∧ t.cpu.pc = s.cpu.pc + 1#16) ∧
    (∃ t, exec .ldIndHlIncA s = .next t ∧ StoresByte s t (regHL s) s.cpu.a ∧ regHL t = regHL s + 1#16 ∧
      KeepsRegs [.h, .l] s t ∧ KeepsSp s t ∧ KeepsControl s t ∧ KeepsFlags s t ∧ t.cpu.pc = s.cpu.pc + 1#16) ∧
    (∃ t, exec .ldIndHlDecA s = .next t ∧ StoresByte s t (regHL s) s.cpu.a ∧ regHL t = regHL s - 1#16 ∧
      KeepsRegs [.h, .l] s t ∧ KeepsSp s t ∧ KeepsControl s t ∧ KeepsFlags s t ∧ t.cpu.pc = s.cpu.pc + 1#16)

/-- The 8-bit registers of a pair; SP has none. -/
def Sys2Proof.Machine.halvesOf (rr : Reg16) : List Reg8 := rr.pick [.b, .c] [.d, .e] [.h, .l] []

/-- R140, R142. LD rr,n16 and LD SP,HL: the pair gets the word, SP changes only when it is the pair, and nothing else but PC changes. -/
def Obligations.LoadPairForms : Prop :=
  ∀ (rr : Reg16) (n : Word) (s : State),
    (∃ t, exec (Instr.ldPairN16 rr n) s = .next t ∧ getPair rr t = n ∧
      KeepsRegs (halvesOf rr) s t ∧ (rr ≠ .sp → KeepsSp s t) ∧ KeepsControl s t ∧ KeepsMemory s t ∧
      KeepsFlags s t ∧ t.cpu.pc = s.cpu.pc + 3#16) ∧
    (∃ t, exec .ldSpHl s = .next t ∧ KeepsMemory s t ∧
      t.cpu = { s.cpu with sp := s.cpu.h ++ s.cpu.l, pc := s.cpu.pc + 1#16 })

/-- R141. LD (a16),SP stores SP's low byte at a, then its high byte at a + 1 modulo 2^16. -/
def Obligations.StoreSpWord : Prop :=
  ∀ (a : Word) (s : State), ∃ t, exec (.ldIndA16Sp a) s = .next t ∧ StoresWord s t a s.cpu.sp ∧
    t.cpu = { s.cpu with pc := s.cpu.pc + 3#16 }

/-- The word PUSH rr pushes (R21, R94). -/
def Sys2Proof.Machine.pushedWord (q : StackPair) (s : State) : Word :=
  q.pick (s.cpu.b ++ s.cpu.c) (s.cpu.d ++ s.cpu.e) (s.cpu.h ++ s.cpu.l) (s.cpu.a ++ s.cpu.f)

/-- R143, R145. PUSH rr: SP - 2 modulo 2^16, the low byte at the new SP, the high byte above it. -/
def Obligations.PushStoresPair : Prop :=
  ∀ (q : StackPair) (s : State), ∃ t, exec (Instr.push q) s = .next t ∧
    StoresWord s t (s.cpu.sp - 2#16) (pushedWord q s) ∧
    t.cpu = { s.cpu with sp := s.cpu.sp - 2#16, pc := s.cpu.pc + 1#16 }

/-- R144, R146. POP BC, POP DE, POP HL: the word at SP, low byte first, then SP + 2 modulo 2^16. -/
def Obligations.PopLoadsPair : Prop :=
  ∀ s : State,
    (∃ t, exec (Instr.pop .bc) s = .next t ∧ KeepsMemory s t ∧
      t.cpu = { s.cpu with
        b := readByte s (s.cpu.sp + 1#16), c := readByte s s.cpu.sp, sp := s.cpu.sp + 2#16, pc := s.cpu.pc + 1#16 }) ∧
    (∃ t, exec (Instr.pop .de) s = .next t ∧ KeepsMemory s t ∧
      t.cpu = { s.cpu with
        d := readByte s (s.cpu.sp + 1#16), e := readByte s s.cpu.sp, sp := s.cpu.sp + 2#16, pc := s.cpu.pc + 1#16 }) ∧
    (∃ t, exec (Instr.pop .hl) s = .next t ∧ KeepsMemory s t ∧
      t.cpu = { s.cpu with
        h := readByte s (s.cpu.sp + 1#16), l := readByte s s.cpu.sp, sp := s.cpu.sp + 2#16, pc := s.cpu.pc + 1#16 })

/-- R147, R24. POP AF: A from the byte above SP, the four flags from bits 7 to 4 of the byte at SP, F[3:0] zero whatever was popped. -/
def Obligations.PopAfMasksFlags : Prop :=
  ∀ s : State, ∃ t, exec .popAf s = .next t ∧
    t.cpu = { s.cpu with
      a := readByte s (s.cpu.sp + 1#16), f := t.cpu.f, sp := s.cpu.sp + 2#16, pc := s.cpu.pc + 1#16 } ∧
    flagZ t = (readByte s s.cpu.sp).getLsbD 7 ∧ flagN t = (readByte s s.cpu.sp).getLsbD 6 ∧
    flagH t = (readByte s s.cpu.sp).getLsbD 5 ∧ flagC t = (readByte s s.cpu.sp).getLsbD 4 ∧
    t.cpu.f &&& 0x0F#8 = 0x00#8 ∧ KeepsMemory s t

/-! ## 8-bit ALU -/

/-- `t` is `s` after an instruction of `len` bytes on A and the value `v` whose primitive gives the byte `r` and the flags N, Hf and Cy: A gets `r`
if `writes`, Z is that of `r`, all four flags are written, nothing else changes (R165 to R173). -/
def Sys2Proof.Machine.AluLeaves (s t : State) (len : Nat) (writes : Bool) (r : Nat) (n h c : Bool) : Prop :=
  (getReg .a t).toNat = (if writes then r else s.cpu.a.toNat) ∧
    FlagsBecome s t (decide (r = 0)) n h c ∧ KeepsAllBut [.a] s t ∧ t.cpu.pc = s.cpu.pc + BitVec.ofNat 16 len

/-- The same fact of the form with a register or (HL), and of the form with an immediate (R165). -/
def Sys2Proof.Machine.OfBothForms (op : AluOp) (leaves : State → State → Nat → Byte → Prop) : Prop :=
  ∀ s : State,
    (∀ x : Loc, ∃ t, exec (Instr.alu op x) s = .next t ∧ leaves s t 1 (getLoc x s)) ∧
    (∀ n : Byte, ∃ t, exec (Instr.aluN8 op n) s = .next t ∧ leaves s t 2 n)

/-- R160, R166, R167. ADD and ADC: the sum modulo 256, Cy out of bit 7, Hf out of bit 3, N = 0, with the old Cy added by ADC. -/
def Obligations.AddAndAdcResults : Prop :=
  OfBothForms .add (fun s t len v =>
    AluLeaves s t len true ((s.cpu.a.toNat + v.toNat) % 256) false
      (decide (s.cpu.a.toNat % 16 + v.toNat % 16 > 15)) (decide (s.cpu.a.toNat + v.toNat > 255))) ∧
  OfBothForms .adc (fun s t len v =>
    AluLeaves s t len true ((s.cpu.a.toNat + v.toNat + (flagC s).toNat) % 256) false
      (decide (s.cpu.a.toNat % 16 + v.toNat % 16 + (flagC s).toNat > 15))
      (decide (s.cpu.a.toNat + v.toNat + (flagC s).toNat > 255)))

/-- R161, R168, R169, R173. SUB, SBC and CP: the difference modulo 256, Cy and Hf the borrows (a < b + cin), N = 1; CP leaves A. -/
def Obligations.SubSbcAndCpResults : Prop :=
  OfBothForms .sub (fun s t len v =>
    AluLeaves s t len true ((s.cpu.a.toNat + 256 - v.toNat) % 256) true
      (decide (s.cpu.a.toNat % 16 < v.toNat % 16)) (decide (s.cpu.a.toNat < v.toNat))) ∧
  OfBothForms .sbc (fun s t len v =>
    AluLeaves s t len true ((s.cpu.a.toNat + 512 - v.toNat - (flagC s).toNat) % 256) true
      (decide (s.cpu.a.toNat % 16 < v.toNat % 16 + (flagC s).toNat))
      (decide (s.cpu.a.toNat < v.toNat + (flagC s).toNat))) ∧
  OfBothForms .cp (fun s t len v =>
    AluLeaves s t len false ((s.cpu.a.toNat + 256 - v.toNat) % 256) true
      (decide (s.cpu.a.toNat % 16 < v.toNat % 16)) (decide (s.cpu.a.toNat < v.toNat)))

/-- R162 to R164, R170 to R172. AND, XOR and OR: the bitwise result, N = Cy = 0, Hf = 1 for AND and 0 for the others. -/
def Obligations.LogicalResults : Prop :=
  OfBothForms .and (fun s t len v => AluLeaves s t len true (s.cpu.a &&& v).toNat false true false) ∧
  OfBothForms .xor (fun s t len v => AluLeaves s t len true (s.cpu.a ^^^ v).toNat false false false) ∧
  OfBothForms .or (fun s t len v => AluLeaves s t len true (s.cpu.a ||| v).toNat false false false)

/-- R174, R176. INC r and DEC r: one up or down modulo 256, Z, N and Hf from the old value, Cy unchanged. -/
def Obligations.IncDecRegister : Prop :=
  ∀ (r : Reg8) (s : State),
    (∃ t, exec (Instr.inc (.reg r)) s = .next t ∧ (getReg r t).toNat = ((getReg r s).toNat + 1) % 256 ∧
      FlagsBecome s t (decide ((getReg r s).toNat = 255)) false (decide ((getReg r s).toNat % 16 = 15)) (flagC s) ∧
      KeepsAllBut [r] s t ∧ t.cpu.pc = s.cpu.pc + 1#16) ∧
    (∃ t, exec (Instr.dec (.reg r)) s = .next t ∧ (getReg r t).toNat = ((getReg r s).toNat + 255) % 256 ∧
      FlagsBecome s t (decide ((getReg r s).toNat = 1)) true (decide ((getReg r s).toNat % 16 = 0)) (flagC s) ∧
      KeepsAllBut [r] s t ∧ t.cpu.pc = s.cpu.pc + 1#16)

/-- R175, R177. INC (HL) and DEC (HL): the byte at HL is read once and written once; the flags are those of the byte read, whatever the write
does. -/
def Obligations.IncDecAtHl : Prop :=
  ∀ s : State,
    (∃ t, exec .incIndHl s = .next t ∧ StoresByte s t (regHL s) (readByte s (regHL s) + 1#8) ∧
      FlagsBecome s t (decide ((readByte s (regHL s)).toNat = 255)) false
        (decide ((readByte s (regHL s)).toNat % 16 = 15)) (flagC s) ∧
      KeepsRegs [] s t ∧ KeepsSp s t ∧ KeepsControl s t ∧ t.cpu.pc = s.cpu.pc + 1#16) ∧
    (∃ t, exec .decIndHl s = .next t ∧ StoresByte s t (regHL s) (readByte s (regHL s) - 1#8) ∧
      FlagsBecome s t (decide ((readByte s (regHL s)).toNat = 1)) true
        (decide ((readByte s (regHL s)).toNat % 16 = 0)) (flagC s) ∧
      KeepsRegs [] s t ∧ KeepsSp s t ∧ KeepsControl s t ∧ t.cpu.pc = s.cpu.pc + 1#16)

/-- R178. DAA: after an addition 0x60 is added when Cy = 1 or A > 0x99, and 0x06 when Hf = 1 or A's low nibble exceeds 9, both tests on the old A;
after a subtraction 0x60 is taken off when Cy = 1 and 0x06 when Hf = 1. Z from the result, N unchanged, Hf = 0, Cy set by the addition's
0x60 and otherwise unchanged. -/
def Obligations.DaaAdjusts : Prop :=
  ∀ s : State, ∃ t, exec .daa s = .next t ∧
    (let a := s.cpu.a.toNat
     let high := flagC s = true ∨ (flagN s = false ∧ a > 0x99)
     let low := flagH s = true ∨ (flagN s = false ∧ a % 16 > 9)
     let r := if flagN s then (a + 256 - (if high then 0x60 else 0) - (if low then 0x06 else 0)) % 256
       else (a + (if high then 0x60 else 0) + (if low then 0x06 else 0)) % 256
     (getReg .a t).toNat = r ∧ FlagsBecome s t (decide (r = 0)) (flagN s) false (decide high)) ∧
    KeepsAllBut [.a] s t ∧ t.cpu.pc = s.cpu.pc + 1#16

/-- A number from 0 to 99 as two BCD digits. -/
def Sys2Proof.Machine.bcd (n : Nat) : Byte := BitVec.ofNat 8 (n / 10 * 16 + n % 10)

/-- 95_test_vectors EX3. ADD A,n8 of two BCD bytes, then DAA, is the BCD sum, with Cy exactly when the sum is 100 or more and Z exactly when
the two digits are 00; and SUB n8, then DAA, is the BCD difference modulo 100, with Cy exactly when it is negative. -/
def Obligations.BcdRoundTrip : Prop :=
  ∀ (s : State) (x y : Nat), x < 100 → y < 100 → s.cpu.a = bcd x →
    (∃ t u, exec (.addAN8 (bcd y)) s = .next t ∧ exec .daa t = .next u ∧
      getReg .a u = bcd ((x + y) % 100) ∧ flagC u = decide (x + y ≥ 100) ∧ flagZ u = decide (getReg .a u = 0x00#8)) ∧
    (∃ t u, exec (.subN8 (bcd y)) s = .next t ∧ exec .daa t = .next u ∧
      getReg .a u = bcd ((x + 100 - y) % 100) ∧ flagC u = decide (x < y) ∧ flagZ u = decide (getReg .a u = 0x00#8))

/-- R179, R180, R181. CPL, SCF and CCF. -/
def Obligations.ComplementAndCarryForms : Prop :=
  ∀ s : State,
    (∃ t, exec .cpl s = .next t ∧ (getReg .a t).toNat = 255 - s.cpu.a.toNat ∧
      FlagsBecome s t (flagZ s) true true (flagC s) ∧ KeepsAllBut [.a] s t ∧ t.cpu.pc = s.cpu.pc + 1#16) ∧
    (∃ t, exec .scf s = .next t ∧ FlagsBecome s t (flagZ s) false false true ∧
      KeepsAllBut [] s t ∧ t.cpu.pc = s.cpu.pc + 1#16) ∧
    (∃ t, exec .ccf s = .next t ∧ FlagsBecome s t (flagZ s) false false (!flagC s) ∧
      KeepsAllBut [] s t ∧ t.cpu.pc = s.cpu.pc + 1#16)

/-- R182 to R185. RLCA, RRCA, RLA and RRA on A as a number: the bit that leaves is the new Cy, and Z = N = Hf = 0. -/
def Obligations.AccumulatorRotates : Prop :=
  ∀ s : State,
    (let a := s.cpu.a.toNat
     let cy := (flagC s).toNat
     let leaves := fun (i : Instr) (r : Nat) (c : Bool) =>
       ∃ t, exec i s = .next t ∧ (getReg .a t).toNat = r ∧ FlagsBecome s t false false false c ∧
         KeepsAllBut [.a] s t ∧ t.cpu.pc = s.cpu.pc + 1#16
     leaves .rlca (2 * a % 256 + a / 128) (decide (a ≥ 128)) ∧
     leaves .rrca (a / 2 + 128 * (a % 2)) (decide (a % 2 = 1)) ∧
     leaves .rla (2 * a % 256 + cy) (decide (a ≥ 128)) ∧
     leaves .rra (a / 2 + 128 * cy) (decide (a % 2 = 1)))

/-! ## 16-bit arithmetic -/

/-- R200, R201. ADD HL,rr: the sum modulo 2^16, Hf out of bit 11, Cy out of bit 15, N = 0, Z unchanged. -/
def Obligations.AddHlResult : Prop :=
  ∀ (rr : Reg16) (s : State), ∃ t, exec (Instr.addHlPair rr) s = .next t ∧
    (regHL t).toNat = ((regHL s).toNat + (getPair rr s).toNat) % 65536 ∧
    FlagsBecome s t (flagZ s) false (decide ((regHL s).toNat % 4096 + (getPair rr s).toNat % 4096 > 4095))
      (decide ((regHL s).toNat + (getPair rr s).toNat > 65535)) ∧
    KeepsAllBut [.h, .l] s t ∧ t.cpu.pc = s.cpu.pc + 1#16

/-- R202, R203. INC rr and DEC rr: one up or down modulo 2^16, no flag. -/
def Obligations.IncDecPair : Prop :=
  ∀ (rr : Reg16) (s : State),
    (∃ t, exec (Instr.incPair rr) s = .next t ∧ getPair rr t = getPair rr s + 1#16 ∧
      KeepsRegs (halvesOf rr) s t ∧ (rr ≠ .sp → KeepsSp s t) ∧ KeepsControl s t ∧ KeepsMemory s t ∧
      KeepsFlags s t ∧ t.cpu.pc = s.cpu.pc + 1#16) ∧
    (∃ t, exec (Instr.decPair rr) s = .next t ∧ getPair rr t = getPair rr s - 1#16 ∧
      KeepsRegs (halvesOf rr) s t ∧ (rr ≠ .sp → KeepsSp s t) ∧ KeepsControl s t ∧ KeepsMemory s t ∧
      KeepsFlags s t ∧ t.cpu.pc = s.cpu.pc + 1#16)

/-- R204, R205, R206. ADD SP,e8 and LD HL,SP+e8: the byte is sign-extended for the sum; Hf and Cy are those of the unsigned low bytes, Z = N = 0. -/
def Obligations.SpRelativeResults : Prop :=
  ∀ (e : Byte) (s : State),
    (let sum := s.cpu.sp + BitVec.ofInt 16 e.toInt
     let h := decide (s.cpu.sp.toNat % 16 + e.toNat % 16 > 15)
     let c := decide (s.cpu.sp.toNat % 256 + e.toNat > 255)
     (∃ t, exec (.addSpE8 e) s = .next t ∧ t.cpu.sp = sum ∧ FlagsBecome s t false false h c ∧
       KeepsRegs [] s t ∧ KeepsControl s t ∧ KeepsMemory s t ∧ t.cpu.pc = s.cpu.pc + 2#16) ∧
     (∃ t, exec (.ldHlSpE8 e) s = .next t ∧ regHL t = sum ∧ FlagsBecome s t false false h c ∧
       KeepsAllBut [.h, .l] s t ∧ t.cpu.pc = s.cpu.pc + 2#16))

/-! ## Control transfer -/

/-- Whether a condition holds, from the flags (R95, R220). -/
def Sys2Proof.Machine.condTrue (cc : Cond) (s : State) : Bool := cc.pick (!flagZ s) (flagZ s) (!flagC s) (flagC s)

/-- R95, R220 to R225. The jumps: only PC changes; a jump that is not taken leaves PC past the instruction. With the standard cycle table a
conditional jump costs the taken or the not-taken cost (R334). -/
def Obligations.JumpTargets : Prop :=
  ∀ (cc : Cond) (a : Word) (e : Byte) (s : State),
    exec (.jpA16 a) s = .next { s with cpu := { s.cpu with pc := a } } ∧
    exec .jpHl s = .next { s with cpu := { s.cpu with pc := s.cpu.h ++ s.cpu.l } } ∧
    exec (.jrE8 e) s = .next { s with cpu := { s.cpu with pc := s.cpu.pc + 2#16 + BitVec.ofInt 16 e.toInt } } ∧
    exec (Instr.jpCond cc a) s =
      .next { s with cpu := { s.cpu with pc := if condTrue cc s then a else s.cpu.pc + 3#16 } } ∧
    exec (Instr.jrCond cc e) s =
      .next { s with cpu := { s.cpu with
        pc := s.cpu.pc + 2#16 + (if condTrue cc s then BitVec.ofInt 16 e.toInt else 0#16) } } ∧
    (s.params.cycleTable = [] →
      instrCost (Instr.jpCond cc a) s = some (if condTrue cc s then 4 else 3) ∧
      instrCost (Instr.jrCond cc e) s = some (if condTrue cc s then 3 else 2))

/-- R143, R226, R227, R231. The calls push the address of the next instruction and jump; a call that is not taken only moves PC past itself. -/
def Obligations.CallsPushReturnAddress : Prop :=
  ∀ (cc : Cond) (k : Fin 8) (a : Word) (s : State),
    (∃ t, exec (.callA16 a) s = .next t ∧ StoresWord s t (s.cpu.sp - 2#16) (s.cpu.pc + 3#16) ∧
      t.cpu = { s.cpu with sp := s.cpu.sp - 2#16, pc := a }) ∧
    (condTrue cc s = true → ∃ t, exec (Instr.callCond cc a) s = .next t ∧
      StoresWord s t (s.cpu.sp - 2#16) (s.cpu.pc + 3#16) ∧ t.cpu = { s.cpu with sp := s.cpu.sp - 2#16, pc := a }) ∧
    (condTrue cc s = false →
      exec (Instr.callCond cc a) s = .next { s with cpu := { s.cpu with pc := s.cpu.pc + 3#16 } }) ∧
    (∃ t, exec (Instr.rst k) s = .next t ∧ StoresWord s t (s.cpu.sp - 2#16) (s.cpu.pc + 1#16) ∧
      t.cpu = { s.cpu with sp := s.cpu.sp - 2#16, pc := BitVec.ofNat 16 (8 * k.val) })

/-- R144, R228, R229, R230. The returns pop PC; RETI also sets `ime`; a return that is not taken only moves PC past itself. -/
def Obligations.ReturnsPopPc : Prop :=
  ∀ (cc : Cond) (s : State),
    (let target := readByte s (s.cpu.sp + 1#16) ++ readByte s s.cpu.sp
     exec .ret s = .next { s with cpu := { s.cpu with sp := s.cpu.sp + 2#16, pc := target } } ∧
     exec .reti s = .next { s with cpu := { s.cpu with sp := s.cpu.sp + 2#16, pc := target, ime := true } } ∧
     exec (Instr.retCond cc) s =
       (if condTrue cc s then .next { s with cpu := { s.cpu with sp := s.cpu.sp + 2#16, pc := target } }
        else .next { s with cpu := { s.cpu with pc := s.cpu.pc + 1#16 } }))

/-! ## Prefixed operations -/

/-- The result of a rotate, shift or swap of the byte `v` with carry-in `cy`, and the new Cy, as numbers (R251 to R258). -/
def Sys2Proof.Machine.shiftNumber (op : ShiftOp) (v cy : Nat) : Nat × Bool :=
  match op with
  | .rlc => (2 * v % 256 + v / 128, decide (v ≥ 128))
  | .rrc => (v / 2 + 128 * (v % 2), decide (v % 2 = 1))
  | .rl => (2 * v % 256 + cy, decide (v ≥ 128))
  | .rr => (v / 2 + 128 * cy, decide (v % 2 = 1))
  | .sla => (2 * v % 256, decide (v ≥ 128))
  | .sra => (v / 2 + v / 128 * 128, decide (v % 2 = 1))
  | .swap => (v % 16 * 16 + v / 16, false)
  | .srl => (v / 2, decide (v % 2 = 1))

/-- R250 to R258. The rotates, shifts and SWAP on a register and on the byte at HL: Z from the result, N = Hf = 0, Cy the bit that leaves. -/
def Obligations.CbShiftResults : Prop :=
  ∀ (op : ShiftOp) (s : State),
    (∀ r : Reg8, ∃ t, exec (Instr.shift op (.reg r)) s = .next t ∧
      (let y := shiftNumber op (getReg r s).toNat (flagC s).toNat
       (getReg r t).toNat = y.1 ∧ FlagsBecome s t (decide (y.1 = 0)) false false y.2) ∧
      KeepsAllBut [r] s t ∧ t.cpu.pc = s.cpu.pc + 2#16) ∧
    (∃ t, exec (Instr.shift op .indHl) s = .next t ∧
      (let y := shiftNumber op (readByte s (regHL s)).toNat (flagC s).toNat
       StoresByte s t (regHL s) (BitVec.ofNat 8 y.1) ∧ FlagsBecome s t (decide (y.1 = 0)) false false y.2) ∧
      KeepsRegs [] s t ∧ KeepsSp s t ∧ KeepsControl s t ∧ t.cpu.pc = s.cpu.pc + 2#16)

/-- R259. BIT b,r: Z is the complement of the bit, N = 0, Hf = 1, Cy unchanged; nothing is written back, at HL neither. -/
def Obligations.BitTestsOnly : Prop :=
  ∀ (b : Fin 8) (x : Loc) (s : State), ∃ t, exec (Instr.bit b x) s = .next t ∧
    FlagsBecome s t (decide ((getLoc x s).toNat / 2 ^ b.val % 2 = 0)) false true (flagC s) ∧
    KeepsAllBut [] s t ∧ t.cpu.pc = s.cpu.pc + 2#16

/-- The byte with bit b made `v`, by its bits (R260, R261). -/
def Sys2Proof.Machine.IsWithBit (old new : Byte) (b : Fin 8) (v : Bool) : Prop :=
  ∀ k, k < 8 → new.getLsbD k = (if k = b.val then v else old.getLsbD k)

/-- R260, R261. RES b,r clears and SET b,r sets one bit of the operand, writing it back always; no flag. -/
def Obligations.ResAndSetWriteOneBit : Prop :=
  ∀ (b : Fin 8) (s : State),
    (∀ r : Reg8,
      (∃ t, exec (Instr.res b (.reg r)) s = .next t ∧ IsWithBit (getReg r s) (getReg r t) b false ∧
        KeepsAllBut [r] s t ∧ KeepsFlags s t ∧ t.cpu.pc = s.cpu.pc + 2#16) ∧
      (∃ t, exec (Instr.set b (.reg r)) s = .next t ∧ IsWithBit (getReg r s) (getReg r t) b true ∧
        KeepsAllBut [r] s t ∧ KeepsFlags s t ∧ t.cpu.pc = s.cpu.pc + 2#16)) ∧
    (∃ t v, exec (Instr.res b .indHl) s = .next t ∧ IsWithBit (readByte s (regHL s)) v b false ∧
      StoresByte s t (regHL s) v ∧ t.cpu = { s.cpu with pc := s.cpu.pc + 2#16 }) ∧
    (∃ t v, exec (Instr.set b .indHl) s = .next t ∧ IsWithBit (readByte s (regHL s)) v b true ∧
      StoresByte s t (regHL s) v ∧ t.cpu = { s.cpu with pc := s.cpu.pc + 2#16 })

/-! ## Miscellaneous, and cost -/

/-- R270, R275. NOP and the eleven unrecognized opcodes advance PC by 1 and change nothing else; with the standard cycle table each costs 1. -/
def Obligations.NopAndUnrecognizedOnlyAdvance : Prop :=
  ∀ (k : Fin 11) (s : State),
    exec .nop s = .next { s with cpu := { s.cpu with pc := s.cpu.pc + 1#16 } } ∧
    exec (Instr.unrecognized k) s = .next { s with cpu := { s.cpu with pc := s.cpu.pc + 1#16 } } ∧
    (s.params.cycleTable = [] → instrCost .nop s = some 1 ∧ instrCost (Instr.unrecognized k) s = some 1)

/-- R271 to R274. HALT sets `halted`, after which a step is refused, DI and EI write `ime` at once, and STOP follows `stop_mode`; PC moves past the instruction and nothing
else changes; with the standard cycle table each costs 1. -/
def Obligations.CpuControlEffects : Prop :=
  ∀ (ignored : Byte) (s : State),
    exec .halt s = .next { s with cpu := { s.cpu with pc := s.cpu.pc + 1#16, halted := true } } ∧
    step { s with cpu := { s.cpu with pc := s.cpu.pc + 1#16, halted := true } } = .refused .stepWhileHalted ∧
    exec .di s = .next { s with cpu := { s.cpu with pc := s.cpu.pc + 1#16, ime := false } } ∧
    exec .ei s = .next { s with cpu := { s.cpu with pc := s.cpu.pc + 1#16, ime := true } } ∧
    (s.params.stopMode = .nop1 →
      exec (.stop ignored) s = .next { s with cpu := { s.cpu with pc := s.cpu.pc + 1#16 } }) ∧
    (s.params.stopMode = .nop2 →
      exec (.stop ignored) s = .next { s with cpu := { s.cpu with pc := s.cpu.pc + 2#16 } }) ∧
    (s.params.stopMode = .halt →
      exec (.stop ignored) s = .next { s with cpu := { s.cpu with pc := s.cpu.pc + 2#16, halted := true } }) ∧
    (s.params.cycleTable = [] →
      instrCost .halt s = some 1 ∧ instrCost .di s = some 1 ∧ instrCost .ei s = some 1 ∧ instrCost (.stop ignored) s = some 1)

/-- R334, R7. With the standard cycle table every step while RUNNING costs from 1 to 6 machine cycles, and the costs are those of the table's
rows; of a conditional transfer, the taken or the not-taken cost by its condition. -/
def Obligations.StandardCosts : Prop :=
  ∀ s : State, s.params.cycleTable = [] →
    (s.cpu.halted = false → ∃ n, stepCost s = some n ∧ 1 ≤ n ∧ n ≤ 6) ∧
    (∀ i ∈ [Instr.nop, .rlca, .rrca, .rla, .rra, .daa, .cpl, .scf, .ccf, .jpHl, .di, .ei, .halt],
      instrCost i s = some 1) ∧
    (∀ (dst r : Reg8) (n : Byte), instrCost (Instr.ldReg dst r) s = some 1 ∧ instrCost (Instr.inc (.reg r)) s = some 1 ∧
      instrCost (Instr.dec (.reg r)) s = some 1 ∧ instrCost (.stop n) s = some 1 ∧
      instrCost (Instr.ldRegN8 dst n) s = some 2 ∧ instrCost (Instr.ldRegIndHl dst) s = some 2 ∧
      instrCost (Instr.ldIndHlReg r) s = some 2) ∧
    (∀ k, instrCost (Instr.unrecognized k) s = some 1) ∧
    (∀ (op : AluOp) (r : Reg8) (n : Byte), instrCost (Instr.alu op (.reg r)) s = some 1 ∧
      instrCost (Instr.alu op .indHl) s = some 2 ∧ instrCost (Instr.aluN8 op n) s = some 2) ∧
    (∀ i ∈ [Instr.ldAIndBc, .ldAIndDe, .ldIndBcA, .ldIndDeA, .ldAIndHlInc, .ldAIndHlDec, .ldIndHlIncA, .ldIndHlDecA,
        .ldAIndC, .ldIndCA, .ldSpHl], instrCost i s = some 2) ∧
    (∀ (rr : Reg16) (n : Word), instrCost (Instr.addHlPair rr) s = some 2 ∧ instrCost (Instr.incPair rr) s = some 2 ∧
      instrCost (Instr.decPair rr) s = some 2 ∧ instrCost (Instr.ldPairN16 rr n) s = some 3) ∧
    (∀ (q : StackPair) (n : Byte) (a : Word) (k : Fin 8), instrCost (Instr.pop q) s = some 3 ∧
      instrCost (.ldIndHlN8 n) s = some 3 ∧ instrCost .incIndHl s = some 3 ∧ instrCost .decIndHl s = some 3 ∧
      instrCost (.ldhAIndA8 n) s = some 3 ∧ instrCost (.ldhIndA8A n) s = some 3 ∧ instrCost (.ldHlSpE8 n) s = some 3 ∧
      instrCost (.jrE8 n) s = some 3 ∧ instrCost (.ldAIndA16 a) s = some 4 ∧ instrCost (.ldIndA16A a) s = some 4 ∧
      instrCost (Instr.push q) s = some 4 ∧ instrCost (.addSpE8 n) s = some 4 ∧ instrCost (.jpA16 a) s = some 4 ∧
      instrCost .ret s = some 4 ∧ instrCost .reti s = some 4 ∧ instrCost (Instr.rst k) s = some 4 ∧
      instrCost (.ldIndA16Sp a) s = some 5 ∧ instrCost (.callA16 a) s = some 6) ∧
    (∀ (cc : Cond) (a : Word) (e : Byte),
      instrCost (Instr.jrCond cc e) s = some (if condTrue cc s then 3 else 2) ∧
      instrCost (Instr.jpCond cc a) s = some (if condTrue cc s then 4 else 3) ∧
      instrCost (Instr.callCond cc a) s = some (if condTrue cc s then 6 else 3) ∧
      instrCost (Instr.retCond cc) s = some (if condTrue cc s then 5 else 2)) ∧
    (∀ (op : ShiftOp) (b : Fin 8) (r : Reg8), instrCost (Instr.shift op (.reg r)) s = some 2 ∧
      instrCost (Instr.bit b (.reg r)) s = some 2 ∧ instrCost (Instr.res b (.reg r)) s = some 2 ∧
      instrCost (Instr.set b (.reg r)) s = some 2 ∧ instrCost (Instr.bit b .indHl) s = some 3 ∧
      instrCost (Instr.shift op .indHl) s = some 4 ∧ instrCost (Instr.res b .indHl) s = some 4 ∧
      instrCost (Instr.set b .indHl) s = some 4)
end

