-- ==== Sys2Proof/Laws/Bits.lean ====
section
/-! SUPPORT. Laws of the bit helpers and of writing F: the halves of a word, and each flag after the four are written. -/

namespace Sys2Proof.Machine

/-- `hi ++ lo` is hi*256 + lo (00_scope R12). -/
theorem toNat_joinBytes (hi lo : Byte) : (joinBytes hi lo).toNat = hi.toNat * 256 + lo.toNat := by
  have h := Nat.shiftLeft_add_eq_or_of_lt (i := 8) lo.isLt hi.toNat
  rw [joinBytes, BitVec.toNat_append, ← h, Nat.shiftLeft_eq]

theorem toNat_highByte (w : Word) : (highByte w).toNat = w.toNat / 256 := by
  have := w.isLt
  simp only [highByte, BitVec.extractLsb'_toNat, Nat.shiftRight_eq_div_pow]
  omega

theorem toNat_lowByte (w : Word) : (lowByte w).toNat = w.toNat % 256 := by
  simp [lowByte]

@[simp] theorem highByte_joinBytes (hi lo : Byte) : highByte (joinBytes hi lo) = hi := by
  have := lo.isLt
  apply BitVec.eq_of_toNat_eq
  rw [toNat_highByte, toNat_joinBytes]
  omega

@[simp] theorem lowByte_joinBytes (hi lo : Byte) : lowByte (joinBytes hi lo) = lo := by
  have := lo.isLt
  apply BitVec.eq_of_toNat_eq
  rw [toNat_lowByte, toNat_joinBytes]
  omega

@[simp] theorem joinBytes_halves (w : Word) : joinBytes (highByte w) (lowByte w) = w := by
  apply BitVec.eq_of_toNat_eq
  rw [toNat_joinBytes, toNat_highByte, toNat_lowByte]
  omega

theorem lowByte_eq_setWidth (w : Word) : lowByte w = w.setWidth 8 := by
  apply BitVec.eq_of_toNat_eq
  simp [lowByte]

theorem highByte_eq_setWidth (w : Word) : highByte w = (w >>> 8).setWidth 8 := by
  apply BitVec.eq_of_toNat_eq
  simp [highByte]

/-- Writing the four flags sets each, and keeps F[3:0] (10_state R23 to R25). -/
theorem withFlags_spec (f : Byte) (z n h c : Bool) :
    (withFlags f z n h c).getLsbD 7 = z ∧ (withFlags f z n h c).getLsbD 6 = n ∧
    (withFlags f z n h c).getLsbD 5 = h ∧ (withFlags f z n h c).getLsbD 4 = c ∧
    withFlags f z n h c &&& 0x0F#8 = f &&& 0x0F#8 := by
  revert f z n h c
  decide +kernel

@[simp] theorem flagZ_setFlags (z n h c : Bool) (s : State) : flagZ (setFlags z n h c s) = z :=
  (withFlags_spec s.cpu.f z n h c).1

@[simp] theorem flagN_setFlags (z n h c : Bool) (s : State) : flagN (setFlags z n h c s) = n :=
  (withFlags_spec s.cpu.f z n h c).2.1

@[simp] theorem flagH_setFlags (z n h c : Bool) (s : State) : flagH (setFlags z n h c s) = h :=
  (withFlags_spec s.cpu.f z n h c).2.2.1

@[simp] theorem flagC_setFlags (z n h c : Bool) (s : State) : flagC (setFlags z n h c s) = c :=
  (withFlags_spec s.cpu.f z n h c).2.2.2.1

theorem lowNibble_withFlags (f : Byte) (z n h c : Bool) : withFlags f z n h c &&& 0x0F#8 = f &&& 0x0F#8 :=
  (withFlags_spec f z n h c).2.2.2.2

end Sys2Proof.Machine
end

