-- ==== Sys2Proof/Laws/Decode.lean ====
section
/-! SUPPORT. What decoding a byte list gives for each kind of opcode entry, and that every cell of the two maps stands where the encoder puts its
instruction (spec 30_encoding R90, R98, R103, R104). -/

namespace Sys2Proof

open Sys2Proof.Machine

theorem decode_of_op {op : Byte} {i : Instr} (h : primaryEntry op = .op i) (rest : List Byte) :
    decode (op :: rest) = .ok (i, rest) := by
  simp only [decode, h]

theorem decode_of_byte {op : Byte} {mk : Byte → Instr} (h : primaryEntry op = .byte mk) (b1 : Byte) (rest : List Byte) :
    decode (op :: b1 :: rest) = .ok (mk b1, rest) := by
  simp only [decode, h]

theorem decode_of_word {op : Byte} {mk : Word → Instr} (h : primaryEntry op = .word mk) (b1 b2 : Byte)
    (rest : List Byte) : decode (op :: b1 :: b2 :: rest) = .ok (mk (joinBytes b2 b1), rest) := by
  simp only [decode, h]

theorem decode_of_prefixed {op : Byte} (h : primaryEntry op = .prefixed) (cb : Byte) (rest : List Byte) :
    decode (op :: cb :: rest) = .ok (cbInstr cb, rest) := by
  simp only [decode, h]

/-- The encoder puts what an entry opens at this opcode byte, with the entry's immediate after it. -/
def EntryEncodes (op : Byte) : OpcodeEntry → Prop
  | .op i => encode i = [op] ∧ i.wellFormed = true
  | .byte mk => ∀ b, encode (mk b) = [op, b] ∧ (mk b).wellFormed = true
  | .word mk => ∀ w, encode (mk w) = [op, lowByte w, highByte w] ∧ (mk w).wellFormed = true
  | .prefixed => op = 0xCB#8

/-- The entries of a row encode at the opcode bytes from `k` up. -/
def RowEncodes (k : Nat) : List OpcodeEntry → Prop
  | [] => True
  | e :: es => EntryEncodes (BitVec.ofNat 8 k) e ∧ RowEncodes (k + 1) es

/-- Each row has sixteen entries and encodes from `16 * k` up. -/
def RowsEncode (k : Nat) : List (List OpcodeEntry) → Prop
  | [] => True
  | row :: rows => RowEncodes (16 * k) row ∧ row.length = 16 ∧ RowsEncode (k + 1) rows

theorem RowEncodes.entry {k : Nat} {row : List OpcodeEntry} (h : RowEncodes k row) (i : Nat) (hi : i < row.length)
    (spare : OpcodeEntry) : EntryEncodes (BitVec.ofNat 8 (k + i)) (row.getD i spare) := by
  induction row generalizing k i with
  | nil => exact absurd hi (Nat.not_lt_zero i)
  | cons e es ih =>
    cases i with
    | zero => exact h.1
    | succ i =>
      have := ih h.2 i (by simpa using hi)
      rw [show k + (i + 1) = k + 1 + i by omega]
      simpa using this

theorem RowsEncode.row {k : Nat} {rows : List (List OpcodeEntry)} (h : RowsEncode k rows) (i : Nat)
    (hi : i < rows.length) : RowEncodes (16 * (k + i)) (rows.getD i []) ∧ (rows.getD i []).length = 16 := by
  induction rows generalizing k i with
  | nil => exact absurd hi (Nat.not_lt_zero i)
  | cons row rows ih =>
    cases i with
    | zero => exact ⟨h.1, h.2.1⟩
    | succ i =>
      have := ih h.2.2 i (by simpa using hi)
      rw [show k + (i + 1) = k + 1 + i by omega]
      simpa using this

theorem primaryRows_encode : RowsEncode 0 primaryRows := by
  refine ⟨?_, rfl, ?_, rfl, ?_, rfl, ?_, rfl, ?_, rfl, ?_, rfl, ?_, rfl, ?_, rfl, ?_, rfl, ?_, rfl, ?_, rfl, ?_, rfl,
    ?_, rfl, ?_, rfl, ?_, rfl, ?_, rfl, trivial⟩ <;>
  refine ⟨?_, ?_, ?_, ?_, ?_, ?_, ?_, ?_, ?_, ?_, ?_, ?_, ?_, ?_, ?_, ?_, trivial⟩ <;>
  first
    | exact ⟨rfl, rfl⟩
    | exact fun _ => ⟨rfl, rfl⟩
    | rfl

/-- Every cell of the primary map stands where the encoder puts its instruction. -/
theorem primaryEntry_encodes (op : Byte) : EntryEncodes op (primaryEntry op) := by
  have hop := op.isLt
  obtain ⟨hrow, hlen⟩ := primaryRows_encode.row (op.toNat / 16) (by simp only [primaryRows, List.length]; omega)
  have h := hrow.entry (op.toNat % 16) (by omega) .prefixed
  rw [show 16 * (0 + op.toNat / 16) + op.toNat % 16 = op.toNat by omega] at h
  simpa [primaryEntry, mapCell] using h

/-- Every cell of the CB map stands where the encoder puts its instruction. -/
theorem encode_cbInstr (cb : Byte) : encode (cbInstr cb) = [0xCB#8, cb] ∧ (cbInstr cb).wellFormed = true := by
  revert cb
  decide +kernel

end Sys2Proof
end

