-- ==== Sys2Proof/Laws/Families.lean ====
section
/-! SUPPORT. For each family of the opcode maps, the shared operation that the meaning of the instruction named by given field values runs (spec
30_encoding R92 to R104). -/

namespace Sys2Proof.Machine

theorem exec_ldReg (dst r : Reg8) (s : State) : exec (Instr.ldReg dst r) s = .next (loadReg dst r s) := by
  cases dst <;> cases r <;> rfl

theorem exec_ldRegN8 (dst : Reg8) (n : Byte) (s : State) : exec (Instr.ldRegN8 dst n) s = .next (loadRegImm dst n s) := by
  cases dst <;> rfl

theorem exec_ldRegIndHl (dst : Reg8) (s : State) : exec (Instr.ldRegIndHl dst) s = .next (loadRegIndHl dst s) := by
  cases dst <;> rfl

theorem exec_ldIndHlReg (r : Reg8) (s : State) : exec (Instr.ldIndHlReg r) s = .next (storeIndHl r s) := by
  cases r <;> rfl

theorem exec_ldPairN16 (rr : Reg16) (n : Word) (s : State) :
    exec (Instr.ldPairN16 rr n) s = .next (loadPairImm rr n s) := by
  cases rr <;> rfl

theorem exec_push (q : StackPair) (s : State) : exec (Instr.push q) s = .next (pushPair q s) := by
  cases q <;> rfl

theorem exec_pop (q : StackPair) (s : State) : exec (Instr.pop q) s = .next (popPair q s) := by
  cases q <;> rfl

theorem exec_alu (op : AluOp) (x : Loc) (s : State) : exec (Instr.alu op x) s = .next (aluLoc op x s) := by
  cases op <;> rcases x with (_ | _ | _ | _ | _ | _ | _) | _ <;> rfl

theorem exec_aluN8 (op : AluOp) (n : Byte) (s : State) : exec (Instr.aluN8 op n) s = .next (aluImm op n s) := by
  cases op <;> rfl

theorem exec_inc (x : Loc) (s : State) : exec (Instr.inc x) s = .next (incLoc x s) := by
  rcases x with (_ | _ | _ | _ | _ | _ | _) | _ <;> rfl

theorem exec_dec (x : Loc) (s : State) : exec (Instr.dec x) s = .next (decLoc x s) := by
  rcases x with (_ | _ | _ | _ | _ | _ | _) | _ <;> rfl

theorem exec_incPair (rr : Reg16) (s : State) : exec (Instr.incPair rr) s = .next (stepPair rr 1#16 s) := by
  cases rr <;> rfl

theorem exec_decPair (rr : Reg16) (s : State) : exec (Instr.decPair rr) s = .next (stepPair rr 0xFFFF#16 s) := by
  cases rr <;> rfl

theorem exec_addHlPair (rr : Reg16) (s : State) : exec (Instr.addHlPair rr) s = .next (addToHL rr s) := by
  cases rr <;> rfl

theorem exec_jpCond (cc : Cond) (a : Word) (s : State) :
    exec (Instr.jpCond cc a) s = .next (jumpAbs (condHolds cc s) a s) := by
  cases cc <;> rfl

theorem exec_jrCond (cc : Cond) (e : Byte) (s : State) :
    exec (Instr.jrCond cc e) s = .next (jumpRel (condHolds cc s) e s) := by
  cases cc <;> rfl

theorem exec_callCond (cc : Cond) (a : Word) (s : State) :
    exec (Instr.callCond cc a) s = .next (callAbs (condHolds cc s) a s) := by
  cases cc <;> rfl

theorem exec_retCond (cc : Cond) (s : State) : exec (Instr.retCond cc) s = .next (returnFrom (condHolds cc s) s) := by
  cases cc <;> rfl

theorem exec_shift (op : ShiftOp) (x : Loc) (s : State) : exec (Instr.shift op x) s = .next (shiftLoc op x s) := by
  cases op <;> rcases x with (_ | _ | _ | _ | _ | _ | _) | _ <;> rfl

theorem exec_bit (b : Fin 8) (x : Loc) (s : State) : exec (Instr.bit b x) s = .next (testBit b x s) := by
  rcases x with (_ | _ | _ | _ | _ | _ | _) | _ <;> fin_cases b <;> rfl

theorem exec_res (b : Fin 8) (x : Loc) (s : State) : exec (Instr.res b x) s = .next (resetBit b x s) := by
  rcases x with (_ | _ | _ | _ | _ | _ | _) | _ <;> fin_cases b <;> rfl

theorem exec_set (b : Fin 8) (x : Loc) (s : State) : exec (Instr.set b x) s = .next (setBit b x s) := by
  rcases x with (_ | _ | _ | _ | _ | _ | _) | _ <;> fin_cases b <;> rfl

theorem exec_rst (t : Fin 8) (s : State) :
    exec (Instr.rst t) s = .next (restartAt (BitVec.ofNat 16 (8 * t.val)) s) := by
  fin_cases t <;> rfl

/-- The CB instruction of a byte, by its fields x, y and z (R104). -/
theorem cbInstr_byField (cb : Byte) :
    cbInstr cb =
      (match cb.toNat >>> 6 with
        | 0 => Instr.shift (shiftOfField (field3 cb 3)) (locOfField (field3 cb 0))
        | 1 => Instr.bit (field3 cb 3) (locOfField (field3 cb 0))
        | 2 => Instr.res (field3 cb 3) (locOfField (field3 cb 0))
        | _ => Instr.set (field3 cb 3) (locOfField (field3 cb 0))) := by
  revert cb
  decide +kernel

end Sys2Proof.Machine
end

