-- ==== Sys2Proof/Laws/Memory.lean ====
section
/-! SUPPORT. Laws of the byte storage: what is written is read there, every other index reads as before, writing twice is writing once, and
every write keeps the canonical form. -/

namespace Sys2Proof.Machine

theorem Memory.read_clear_same (m : Memory) (i : Nat) : Memory.read (Memory.clear m i) i = Memory.unlisted := by
  induction m with
  | nil => rfl
  | cons c m ih =>
    obtain ⟨j, v⟩ := c
    by_cases h : j = i <;> simp [Memory.clear, Memory.read, h, ih]

theorem Memory.read_clear_other (m : Memory) {i k : Nat} (hk : k ≠ i) :
    Memory.read (Memory.clear m i) k = Memory.read m k := by
  induction m with
  | nil => rfl
  | cons c m ih =>
    obtain ⟨j, v⟩ := c
    by_cases h : j = i
    · subst h; simp [Memory.clear, Memory.read, ih, Ne.symm hk]
    · simp [Memory.clear, Memory.read, h, ih]

theorem Memory.read_place_other (m : Memory) {i k : Nat} (v : Byte) (hk : k ≠ i) :
    Memory.read (Memory.place m i v) k = Memory.read m k := by
  induction m with
  | nil => simp [Memory.place, Memory.read, Ne.symm hk]
  | cons c m ih =>
    obtain ⟨j, w⟩ := c
    by_cases h : i < j <;> simp [Memory.place, Memory.read, h, ih, Ne.symm hk]

theorem Memory.read_place_clear (m : Memory) (i : Nat) (v : Byte) :
    Memory.read (Memory.place (Memory.clear m i) i v) i = v := by
  induction m with
  | nil => simp [Memory.clear, Memory.place, Memory.read]
  | cons c m ih =>
    obtain ⟨j, w⟩ := c
    by_cases h : j = i
    · simp [Memory.clear, h, ih]
    · by_cases hlt : i < j <;> simp [Memory.clear, Memory.place, Memory.read, h, hlt, ih]

/-- What is written is read at the same index. -/
@[simp] theorem Memory.read_write_same (m : Memory) (i : Nat) (v : Byte) :
    Memory.read (Memory.write m i v) i = v := by
  unfold Memory.write
  split
  · rw [Memory.read_clear_same]; exact Eq.symm ‹_›
  · exact Memory.read_place_clear m i v

/-- Every other index reads as before. -/
theorem Memory.read_write_other (m : Memory) {i k : Nat} (v : Byte) (hk : k ≠ i) :
    Memory.read (Memory.write m i v) k = Memory.read m k := by
  unfold Memory.write
  split
  · exact Memory.read_clear_other m hk
  · rw [Memory.read_place_other _ v hk, Memory.read_clear_other m hk]

theorem Memory.clear_clear (m : Memory) (i : Nat) : Memory.clear (Memory.clear m i) i = Memory.clear m i := by
  induction m with
  | nil => rfl
  | cons c m ih =>
    obtain ⟨j, v⟩ := c
    by_cases h : j = i <;> simp [Memory.clear, h, ih]

theorem Memory.clear_place_clear (m : Memory) (i : Nat) (v : Byte) :
    Memory.clear (Memory.place (Memory.clear m i) i v) i = Memory.clear m i := by
  induction m with
  | nil => simp [Memory.clear, Memory.place]
  | cons c m ih =>
    obtain ⟨j, w⟩ := c
    by_cases h : j = i
    · simpa [Memory.clear, h] using ih
    · by_cases hlt : i < j <;> simp [Memory.clear, Memory.place, h, hlt, ih, Memory.clear_clear]

/-- Writing the same value twice is writing it once (20_memory R76). -/
@[simp] theorem Memory.write_write_same (m : Memory) (i : Nat) (v : Byte) :
    Memory.write (Memory.write m i v) i v = Memory.write m i v := by
  by_cases h : v = Memory.unlisted <;> simp [Memory.write, h, Memory.clear_clear, Memory.clear_place_clear]

theorem Memory.wfFrom_weaken {m : Memory} {i j : Nat} (hij : i ≤ j) (h : Memory.wfFrom (some j) m = true) :
    Memory.wfFrom (some i) m = true := by
  cases m with
  | nil => rfl
  | cons c m =>
    obtain ⟨k, v⟩ := c
    simp only [Memory.wfFrom, Bool.and_eq_true, decide_eq_true_eq] at h ⊢
    exact ⟨⟨by omega, h.1.2⟩, h.2⟩

theorem Memory.wfFrom_none {m : Memory} {j : Nat} (h : Memory.wfFrom (some j) m = true) :
    Memory.wfFrom none m = true := by
  cases m with
  | nil => rfl
  | cons c m =>
    obtain ⟨k, v⟩ := c
    simp only [Memory.wfFrom, Bool.and_eq_true, decide_eq_true_eq] at h ⊢
    exact ⟨⟨trivial, h.1.2⟩, h.2⟩

theorem Memory.wfFrom_clear (m : Memory) (i : Nat) (low : Option Nat) (h : Memory.wfFrom low m = true) :
    Memory.wfFrom low (Memory.clear m i) = true := by
  induction m generalizing low with
  | nil => rfl
  | cons c m ih =>
    obtain ⟨j, v⟩ := c
    simp only [Memory.wfFrom, Bool.and_eq_true, decide_eq_true_eq] at h
    obtain ⟨⟨hlow, hv⟩, hm⟩ := h
    by_cases hj : j = i
    · rw [Memory.clear, if_pos hj]
      cases low with
      | none => exact ih none (Memory.wfFrom_none hm)
      | some k =>
        have hk : k < j := by simpa using hlow
        exact ih (some k) (Memory.wfFrom_weaken (Nat.le_of_lt hk) hm)
    · rw [Memory.clear, if_neg hj]
      simp only [Memory.wfFrom, Bool.and_eq_true, decide_eq_true_eq]
      exact ⟨⟨hlow, hv⟩, ih (some j) hm⟩

/-- Placing a byte at an index the storage does not list, above the lower bound, keeps the form. -/
theorem Memory.wfFrom_place (m : Memory) (i : Nat) (v : Byte) (hv : v ≠ Memory.unlisted) (low : Option Nat)
    (hi : ∀ k, low = some k → k < i) (h : Memory.wfFrom low m = true) (hn : ∀ w, (i, w) ∉ m) :
    Memory.wfFrom low (Memory.place m i v) = true := by
  induction m generalizing low with
  | nil =>
    cases low with
    | none => simp [Memory.place, Memory.wfFrom, hv]
    | some k => simp [Memory.place, Memory.wfFrom, hv, hi k rfl]
  | cons c m ih =>
    obtain ⟨j, w⟩ := c
    simp only [Memory.wfFrom, Bool.and_eq_true, decide_eq_true_eq] at h
    obtain ⟨⟨hlow, hw⟩, hm⟩ := h
    by_cases hlt : i < j
    · cases low with
      | none => simp [Memory.place, Memory.wfFrom, hlt, hv, hw, hm]
      | some k => simp [Memory.place, Memory.wfFrom, hlt, hv, hw, hm, hi k rfl]
    · have hne : i ≠ j := fun he => hn w (by simp [he])
      have hji : j < i := by omega
      simp only [Memory.place, if_neg hlt, Memory.wfFrom, Bool.and_eq_true, decide_eq_true_eq]
      refine ⟨⟨hlow, hw⟩, ih (some j) (fun k hk => ?_) hm (fun w' hm' => hn w' (by simp [hm']))⟩
      cases hk; exact hji

theorem Memory.not_mem_clear (m : Memory) (i : Nat) (w : Byte) : (i, w) ∉ Memory.clear m i := by
  induction m with
  | nil => simp [Memory.clear]
  | cons c m ih =>
    obtain ⟨j, v⟩ := c
    by_cases h : j = i
    · simpa [Memory.clear, h] using ih
    · simp [Memory.clear, h, Ne.symm h, ih]

/-- Every write keeps the canonical form. -/
theorem Memory.wf_write (m : Memory) (i : Nat) (v : Byte) (h : Memory.wf m = true) :
    Memory.wf (Memory.write m i v) = true := by
  unfold Memory.write
  split
  · exact Memory.wfFrom_clear m i none h
  · exact Memory.wfFrom_place _ i v ‹_› none (by simp) (Memory.wfFrom_clear m i none h)
      (Memory.not_mem_clear m i)

theorem Memory.below_clear (n : Nat) (m : Memory) (i : Nat) (h : Memory.below n m = true) :
    Memory.below n (Memory.clear m i) = true := by
  induction m with
  | nil => rfl
  | cons c m ih =>
    obtain ⟨j, v⟩ := c
    simp only [Memory.below, List.all_cons, Bool.and_eq_true] at h ih
    by_cases hj : j = i
    · simpa [Memory.clear, hj, Memory.below] using ih h.2
    · simp only [Memory.clear, if_neg hj, Memory.below, List.all_cons, Bool.and_eq_true]
      exact ⟨h.1, ih h.2⟩

theorem Memory.below_place (n : Nat) (m : Memory) {i : Nat} (v : Byte) (hi : i < n)
    (h : Memory.below n m = true) : Memory.below n (Memory.place m i v) = true := by
  induction m with
  | nil => simp [Memory.place, Memory.below, hi]
  | cons c m ih =>
    obtain ⟨j, w⟩ := c
    simp only [Memory.below, List.all_cons, Bool.and_eq_true] at h ih
    by_cases hlt : i < j
    · simp only [Memory.place, if_pos hlt, Memory.below, List.all_cons, Bool.and_eq_true]
      exact ⟨by simpa using hi, h.1, h.2⟩
    · simp only [Memory.place, if_neg hlt, Memory.below, List.all_cons, Bool.and_eq_true]
      exact ⟨h.1, ih h.2⟩

/-- A write below the size keeps every index below it. -/
theorem Memory.below_write (n : Nat) (m : Memory) {i : Nat} (v : Byte) (hi : i < n)
    (h : Memory.below n m = true) : Memory.below n (Memory.write m i v) = true := by
  unfold Memory.write
  split
  · exact Memory.below_clear n m i h
  · exact Memory.below_place n _ v hi (Memory.below_clear n m i h)

end Sys2Proof.Machine
end

