-- ==== Sys2Proof/Laws/State.lean ====
section
/-! SUPPORT. One lemma for each field of the state and each update of it, so that no proof unfolds a record update. -/

namespace Sys2Proof.Machine

@[simp] theorem advance_a (n : Nat) (s : State) : (advance n s).cpu.a = s.cpu.a := rfl
@[simp] theorem advance_f (n : Nat) (s : State) : (advance n s).cpu.f = s.cpu.f := rfl
@[simp] theorem advance_b (n : Nat) (s : State) : (advance n s).cpu.b = s.cpu.b := rfl
@[simp] theorem advance_c (n : Nat) (s : State) : (advance n s).cpu.c = s.cpu.c := rfl
@[simp] theorem advance_d (n : Nat) (s : State) : (advance n s).cpu.d = s.cpu.d := rfl
@[simp] theorem advance_e (n : Nat) (s : State) : (advance n s).cpu.e = s.cpu.e := rfl
@[simp] theorem advance_h (n : Nat) (s : State) : (advance n s).cpu.h = s.cpu.h := rfl
@[simp] theorem advance_l (n : Nat) (s : State) : (advance n s).cpu.l = s.cpu.l := rfl
@[simp] theorem advance_sp (n : Nat) (s : State) : (advance n s).cpu.sp = s.cpu.sp := rfl
@[simp] theorem advance_pc (n : Nat) (s : State) : (advance n s).cpu.pc = s.cpu.pc + BitVec.ofNat 16 n := rfl
@[simp] theorem advance_ime (n : Nat) (s : State) : (advance n s).cpu.ime = s.cpu.ime := rfl
@[simp] theorem advance_halted (n : Nat) (s : State) : (advance n s).cpu.halted = s.cpu.halted := rfl
@[simp] theorem advance_mmu (n : Nat) (s : State) : (advance n s).mmu = s.mmu := rfl
@[simp] theorem advance_params (n : Nat) (s : State) : (advance n s).params = s.params := rfl

@[simp] theorem jumpTo_a (t : Word) (s : State) : (jumpTo t s).cpu.a = s.cpu.a := rfl
@[simp] theorem jumpTo_f (t : Word) (s : State) : (jumpTo t s).cpu.f = s.cpu.f := rfl
@[simp] theorem jumpTo_b (t : Word) (s : State) : (jumpTo t s).cpu.b = s.cpu.b := rfl
@[simp] theorem jumpTo_c (t : Word) (s : State) : (jumpTo t s).cpu.c = s.cpu.c := rfl
@[simp] theorem jumpTo_d (t : Word) (s : State) : (jumpTo t s).cpu.d = s.cpu.d := rfl
@[simp] theorem jumpTo_e (t : Word) (s : State) : (jumpTo t s).cpu.e = s.cpu.e := rfl
@[simp] theorem jumpTo_h (t : Word) (s : State) : (jumpTo t s).cpu.h = s.cpu.h := rfl
@[simp] theorem jumpTo_l (t : Word) (s : State) : (jumpTo t s).cpu.l = s.cpu.l := rfl
@[simp] theorem jumpTo_sp (t : Word) (s : State) : (jumpTo t s).cpu.sp = s.cpu.sp := rfl
@[simp] theorem jumpTo_pc (t : Word) (s : State) : (jumpTo t s).cpu.pc = t := rfl
@[simp] theorem jumpTo_ime (t : Word) (s : State) : (jumpTo t s).cpu.ime = s.cpu.ime := rfl
@[simp] theorem jumpTo_halted (t : Word) (s : State) : (jumpTo t s).cpu.halted = s.cpu.halted := rfl
@[simp] theorem jumpTo_mmu (t : Word) (s : State) : (jumpTo t s).mmu = s.mmu := rfl
@[simp] theorem jumpTo_params (t : Word) (s : State) : (jumpTo t s).params = s.params := rfl

@[simp] theorem setSp_a (v : Word) (s : State) : (setSp v s).cpu.a = s.cpu.a := rfl
@[simp] theorem setSp_f (v : Word) (s : State) : (setSp v s).cpu.f = s.cpu.f := rfl
@[simp] theorem setSp_b (v : Word) (s : State) : (setSp v s).cpu.b = s.cpu.b := rfl
@[simp] theorem setSp_c (v : Word) (s : State) : (setSp v s).cpu.c = s.cpu.c := rfl
@[simp] theorem setSp_d (v : Word) (s : State) : (setSp v s).cpu.d = s.cpu.d := rfl
@[simp] theorem setSp_e (v : Word) (s : State) : (setSp v s).cpu.e = s.cpu.e := rfl
@[simp] theorem setSp_h (v : Word) (s : State) : (setSp v s).cpu.h = s.cpu.h := rfl
@[simp] theorem setSp_l (v : Word) (s : State) : (setSp v s).cpu.l = s.cpu.l := rfl
@[simp] theorem setSp_sp (v : Word) (s : State) : (setSp v s).cpu.sp = v := rfl
@[simp] theorem setSp_pc (v : Word) (s : State) : (setSp v s).cpu.pc = s.cpu.pc := rfl
@[simp] theorem setSp_ime (v : Word) (s : State) : (setSp v s).cpu.ime = s.cpu.ime := rfl
@[simp] theorem setSp_halted (v : Word) (s : State) : (setSp v s).cpu.halted = s.cpu.halted := rfl
@[simp] theorem setSp_mmu (v : Word) (s : State) : (setSp v s).mmu = s.mmu := rfl
@[simp] theorem setSp_params (v : Word) (s : State) : (setSp v s).params = s.params := rfl

@[simp] theorem setIme_a (v : Bool) (s : State) : (setIme v s).cpu.a = s.cpu.a := rfl
@[simp] theorem setIme_f (v : Bool) (s : State) : (setIme v s).cpu.f = s.cpu.f := rfl
@[simp] theorem setIme_b (v : Bool) (s : State) : (setIme v s).cpu.b = s.cpu.b := rfl
@[simp] theorem setIme_c (v : Bool) (s : State) : (setIme v s).cpu.c = s.cpu.c := rfl
@[simp] theorem setIme_d (v : Bool) (s : State) : (setIme v s).cpu.d = s.cpu.d := rfl
@[simp] theorem setIme_e (v : Bool) (s : State) : (setIme v s).cpu.e = s.cpu.e := rfl
@[simp] theorem setIme_h (v : Bool) (s : State) : (setIme v s).cpu.h = s.cpu.h := rfl
@[simp] theorem setIme_l (v : Bool) (s : State) : (setIme v s).cpu.l = s.cpu.l := rfl
@[simp] theorem setIme_sp (v : Bool) (s : State) : (setIme v s).cpu.sp = s.cpu.sp := rfl
@[simp] theorem setIme_pc (v : Bool) (s : State) : (setIme v s).cpu.pc = s.cpu.pc := rfl
@[simp] theorem setIme_ime (v : Bool) (s : State) : (setIme v s).cpu.ime = v := rfl
@[simp] theorem setIme_halted (v : Bool) (s : State) : (setIme v s).cpu.halted = s.cpu.halted := rfl
@[simp] theorem setIme_mmu (v : Bool) (s : State) : (setIme v s).mmu = s.mmu := rfl
@[simp] theorem setIme_params (v : Bool) (s : State) : (setIme v s).params = s.params := rfl

@[simp] theorem enterHalt_a (s : State) : (enterHalt s).cpu.a = s.cpu.a := rfl
@[simp] theorem enterHalt_f (s : State) : (enterHalt s).cpu.f = s.cpu.f := rfl
@[simp] theorem enterHalt_b (s : State) : (enterHalt s).cpu.b = s.cpu.b := rfl
@[simp] theorem enterHalt_c (s : State) : (enterHalt s).cpu.c = s.cpu.c := rfl
@[simp] theorem enterHalt_d (s : State) : (enterHalt s).cpu.d = s.cpu.d := rfl
@[simp] theorem enterHalt_e (s : State) : (enterHalt s).cpu.e = s.cpu.e := rfl
@[simp] theorem enterHalt_h (s : State) : (enterHalt s).cpu.h = s.cpu.h := rfl
@[simp] theorem enterHalt_l (s : State) : (enterHalt s).cpu.l = s.cpu.l := rfl
@[simp] theorem enterHalt_sp (s : State) : (enterHalt s).cpu.sp = s.cpu.sp := rfl
@[simp] theorem enterHalt_pc (s : State) : (enterHalt s).cpu.pc = s.cpu.pc := rfl
@[simp] theorem enterHalt_ime (s : State) : (enterHalt s).cpu.ime = s.cpu.ime := rfl
@[simp] theorem enterHalt_halted (s : State) : (enterHalt s).cpu.halted = true := rfl
@[simp] theorem enterHalt_mmu (s : State) : (enterHalt s).mmu = s.mmu := rfl
@[simp] theorem enterHalt_params (s : State) : (enterHalt s).params = s.params := rfl

@[simp] theorem setHL_a (v : Word) (s : State) : (setHL v s).cpu.a = s.cpu.a := rfl
@[simp] theorem setHL_f (v : Word) (s : State) : (setHL v s).cpu.f = s.cpu.f := rfl
@[simp] theorem setHL_b (v : Word) (s : State) : (setHL v s).cpu.b = s.cpu.b := rfl
@[simp] theorem setHL_c (v : Word) (s : State) : (setHL v s).cpu.c = s.cpu.c := rfl
@[simp] theorem setHL_d (v : Word) (s : State) : (setHL v s).cpu.d = s.cpu.d := rfl
@[simp] theorem setHL_e (v : Word) (s : State) : (setHL v s).cpu.e = s.cpu.e := rfl
@[simp] theorem setHL_h (v : Word) (s : State) : (setHL v s).cpu.h = highByte v := rfl
@[simp] theorem setHL_l (v : Word) (s : State) : (setHL v s).cpu.l = lowByte v := rfl
@[simp] theorem setHL_sp (v : Word) (s : State) : (setHL v s).cpu.sp = s.cpu.sp := rfl
@[simp] theorem setHL_pc (v : Word) (s : State) : (setHL v s).cpu.pc = s.cpu.pc := rfl
@[simp] theorem setHL_ime (v : Word) (s : State) : (setHL v s).cpu.ime = s.cpu.ime := rfl
@[simp] theorem setHL_halted (v : Word) (s : State) : (setHL v s).cpu.halted = s.cpu.halted := rfl
@[simp] theorem setHL_mmu (v : Word) (s : State) : (setHL v s).mmu = s.mmu := rfl
@[simp] theorem setHL_params (v : Word) (s : State) : (setHL v s).params = s.params := rfl

@[simp] theorem setFlags_a (z n h c : Bool) (s : State) : (setFlags z n h c s).cpu.a = s.cpu.a := rfl
@[simp] theorem setFlags_f (z n h c : Bool) (s : State) : (setFlags z n h c s).cpu.f = withFlags s.cpu.f z n h c := rfl
@[simp] theorem setFlags_b (z n h c : Bool) (s : State) : (setFlags z n h c s).cpu.b = s.cpu.b := rfl
@[simp] theorem setFlags_c (z n h c : Bool) (s : State) : (setFlags z n h c s).cpu.c = s.cpu.c := rfl
@[simp] theorem setFlags_d (z n h c : Bool) (s : State) : (setFlags z n h c s).cpu.d = s.cpu.d := rfl
@[simp] theorem setFlags_e (z n h c : Bool) (s : State) : (setFlags z n h c s).cpu.e = s.cpu.e := rfl
@[simp] theorem setFlags_h (z n h c : Bool) (s : State) : (setFlags z n h c s).cpu.h = s.cpu.h := rfl
@[simp] theorem setFlags_l (z n h c : Bool) (s : State) : (setFlags z n h c s).cpu.l = s.cpu.l := rfl
@[simp] theorem setFlags_sp (z n h c : Bool) (s : State) : (setFlags z n h c s).cpu.sp = s.cpu.sp := rfl
@[simp] theorem setFlags_pc (z n h c : Bool) (s : State) : (setFlags z n h c s).cpu.pc = s.cpu.pc := rfl
@[simp] theorem setFlags_ime (z n h c : Bool) (s : State) : (setFlags z n h c s).cpu.ime = s.cpu.ime := rfl
@[simp] theorem setFlags_halted (z n h c : Bool) (s : State) : (setFlags z n h c s).cpu.halted = s.cpu.halted := rfl
@[simp] theorem setFlags_mmu (z n h c : Bool) (s : State) : (setFlags z n h c s).mmu = s.mmu := rfl
@[simp] theorem setFlags_params (z n h c : Bool) (s : State) : (setFlags z n h c s).params = s.params := rfl

@[simp] theorem writeByte_a (s : State) (a : Word) (v : Byte) : (writeByte s a v).cpu.a = s.cpu.a := rfl
@[simp] theorem writeByte_f (s : State) (a : Word) (v : Byte) : (writeByte s a v).cpu.f = s.cpu.f := rfl
@[simp] theorem writeByte_b (s : State) (a : Word) (v : Byte) : (writeByte s a v).cpu.b = s.cpu.b := rfl
@[simp] theorem writeByte_c (s : State) (a : Word) (v : Byte) : (writeByte s a v).cpu.c = s.cpu.c := rfl
@[simp] theorem writeByte_d (s : State) (a : Word) (v : Byte) : (writeByte s a v).cpu.d = s.cpu.d := rfl
@[simp] theorem writeByte_e (s : State) (a : Word) (v : Byte) : (writeByte s a v).cpu.e = s.cpu.e := rfl
@[simp] theorem writeByte_h (s : State) (a : Word) (v : Byte) : (writeByte s a v).cpu.h = s.cpu.h := rfl
@[simp] theorem writeByte_l (s : State) (a : Word) (v : Byte) : (writeByte s a v).cpu.l = s.cpu.l := rfl
@[simp] theorem writeByte_sp (s : State) (a : Word) (v : Byte) : (writeByte s a v).cpu.sp = s.cpu.sp := rfl
@[simp] theorem writeByte_pc (s : State) (a : Word) (v : Byte) : (writeByte s a v).cpu.pc = s.cpu.pc := rfl
@[simp] theorem writeByte_ime (s : State) (a : Word) (v : Byte) : (writeByte s a v).cpu.ime = s.cpu.ime := rfl
@[simp] theorem writeByte_halted (s : State) (a : Word) (v : Byte) : (writeByte s a v).cpu.halted = s.cpu.halted := rfl
@[simp] theorem writeByte_mmu (s : State) (a : Word) (v : Byte) : (writeByte s a v).mmu = mmuWrite s.params s.mmu a v := rfl
@[simp] theorem writeByte_params (s : State) (a : Word) (v : Byte) : (writeByte s a v).params = s.params := rfl

@[simp] theorem writeWord_a (s : State) (a v : Word) : (writeWord s a v).cpu.a = s.cpu.a := rfl
@[simp] theorem writeWord_f (s : State) (a v : Word) : (writeWord s a v).cpu.f = s.cpu.f := rfl
@[simp] theorem writeWord_b (s : State) (a v : Word) : (writeWord s a v).cpu.b = s.cpu.b := rfl
@[simp] theorem writeWord_c (s : State) (a v : Word) : (writeWord s a v).cpu.c = s.cpu.c := rfl
@[simp] theorem writeWord_d (s : State) (a v : Word) : (writeWord s a v).cpu.d = s.cpu.d := rfl
@[simp] theorem writeWord_e (s : State) (a v : Word) : (writeWord s a v).cpu.e = s.cpu.e := rfl
@[simp] theorem writeWord_h (s : State) (a v : Word) : (writeWord s a v).cpu.h = s.cpu.h := rfl
@[simp] theorem writeWord_l (s : State) (a v : Word) : (writeWord s a v).cpu.l = s.cpu.l := rfl
@[simp] theorem writeWord_sp (s : State) (a v : Word) : (writeWord s a v).cpu.sp = s.cpu.sp := rfl
@[simp] theorem writeWord_pc (s : State) (a v : Word) : (writeWord s a v).cpu.pc = s.cpu.pc := rfl
@[simp] theorem writeWord_ime (s : State) (a v : Word) : (writeWord s a v).cpu.ime = s.cpu.ime := rfl
@[simp] theorem writeWord_halted (s : State) (a v : Word) : (writeWord s a v).cpu.halted = s.cpu.halted := rfl
@[simp] theorem writeWord_mmu (s : State) (a v : Word) : (writeWord s a v).mmu = mmuWrite s.params (mmuWrite s.params s.mmu a (lowByte v)) (a + 1#16) (highByte v) := rfl
@[simp] theorem writeWord_params (s : State) (a v : Word) : (writeWord s a v).params = s.params := rfl

@[simp] theorem push16_a (v : Word) (s : State) : (push16 v s).cpu.a = s.cpu.a := rfl
@[simp] theorem push16_f (v : Word) (s : State) : (push16 v s).cpu.f = s.cpu.f := rfl
@[simp] theorem push16_b (v : Word) (s : State) : (push16 v s).cpu.b = s.cpu.b := rfl
@[simp] theorem push16_c (v : Word) (s : State) : (push16 v s).cpu.c = s.cpu.c := rfl
@[simp] theorem push16_d (v : Word) (s : State) : (push16 v s).cpu.d = s.cpu.d := rfl
@[simp] theorem push16_e (v : Word) (s : State) : (push16 v s).cpu.e = s.cpu.e := rfl
@[simp] theorem push16_h (v : Word) (s : State) : (push16 v s).cpu.h = s.cpu.h := rfl
@[simp] theorem push16_l (v : Word) (s : State) : (push16 v s).cpu.l = s.cpu.l := rfl
@[simp] theorem push16_sp (v : Word) (s : State) : (push16 v s).cpu.sp = s.cpu.sp - 2#16 := rfl
@[simp] theorem push16_pc (v : Word) (s : State) : (push16 v s).cpu.pc = s.cpu.pc := rfl
@[simp] theorem push16_ime (v : Word) (s : State) : (push16 v s).cpu.ime = s.cpu.ime := rfl
@[simp] theorem push16_halted (v : Word) (s : State) : (push16 v s).cpu.halted = s.cpu.halted := rfl
@[simp] theorem push16_mmu (v : Word) (s : State) : (push16 v s).mmu = mmuWrite s.params (mmuWrite s.params s.mmu (s.cpu.sp - 2#16) (lowByte v)) (s.cpu.sp - 2#16 + 1#16) (highByte v) := rfl
@[simp] theorem push16_params (v : Word) (s : State) : (push16 v s).params = s.params := rfl

@[simp] theorem dropWord_a (s : State) : (dropWord s).cpu.a = s.cpu.a := rfl
@[simp] theorem dropWord_f (s : State) : (dropWord s).cpu.f = s.cpu.f := rfl
@[simp] theorem dropWord_b (s : State) : (dropWord s).cpu.b = s.cpu.b := rfl
@[simp] theorem dropWord_c (s : State) : (dropWord s).cpu.c = s.cpu.c := rfl
@[simp] theorem dropWord_d (s : State) : (dropWord s).cpu.d = s.cpu.d := rfl
@[simp] theorem dropWord_e (s : State) : (dropWord s).cpu.e = s.cpu.e := rfl
@[simp] theorem dropWord_h (s : State) : (dropWord s).cpu.h = s.cpu.h := rfl
@[simp] theorem dropWord_l (s : State) : (dropWord s).cpu.l = s.cpu.l := rfl
@[simp] theorem dropWord_sp (s : State) : (dropWord s).cpu.sp = s.cpu.sp + 2#16 := rfl
@[simp] theorem dropWord_pc (s : State) : (dropWord s).cpu.pc = s.cpu.pc := rfl
@[simp] theorem dropWord_ime (s : State) : (dropWord s).cpu.ime = s.cpu.ime := rfl
@[simp] theorem dropWord_halted (s : State) : (dropWord s).cpu.halted = s.cpu.halted := rfl
@[simp] theorem dropWord_mmu (s : State) : (dropWord s).mmu = s.mmu := rfl
@[simp] theorem dropWord_params (s : State) : (dropWord s).params = s.params := rfl

@[simp] theorem setReg_f (r : Reg8) (v : Byte) (s : State) : (setReg r v s).cpu.f = s.cpu.f := by cases r <;> rfl
@[simp] theorem setReg_sp (r : Reg8) (v : Byte) (s : State) : (setReg r v s).cpu.sp = s.cpu.sp := by cases r <;> rfl
@[simp] theorem setReg_pc (r : Reg8) (v : Byte) (s : State) : (setReg r v s).cpu.pc = s.cpu.pc := by cases r <;> rfl
@[simp] theorem setReg_ime (r : Reg8) (v : Byte) (s : State) : (setReg r v s).cpu.ime = s.cpu.ime := by cases r <;> rfl
@[simp] theorem setReg_halted (r : Reg8) (v : Byte) (s : State) : (setReg r v s).cpu.halted = s.cpu.halted := by cases r <;> rfl
@[simp] theorem setReg_mmu (r : Reg8) (v : Byte) (s : State) : (setReg r v s).mmu = s.mmu := by cases r <;> rfl
@[simp] theorem setReg_params (r : Reg8) (v : Byte) (s : State) : (setReg r v s).params = s.params := by cases r <;> rfl

@[simp] theorem setPair_a (r : Reg16) (v : Word) (s : State) : (setPair r v s).cpu.a = s.cpu.a := by cases r <;> rfl
@[simp] theorem setPair_f (r : Reg16) (v : Word) (s : State) : (setPair r v s).cpu.f = s.cpu.f := by cases r <;> rfl
@[simp] theorem setPair_pc (r : Reg16) (v : Word) (s : State) : (setPair r v s).cpu.pc = s.cpu.pc := by cases r <;> rfl
@[simp] theorem setPair_ime (r : Reg16) (v : Word) (s : State) : (setPair r v s).cpu.ime = s.cpu.ime := by cases r <;> rfl
@[simp] theorem setPair_halted (r : Reg16) (v : Word) (s : State) : (setPair r v s).cpu.halted = s.cpu.halted := by cases r <;> rfl
@[simp] theorem setPair_mmu (r : Reg16) (v : Word) (s : State) : (setPair r v s).mmu = s.mmu := by cases r <;> rfl
@[simp] theorem setPair_params (r : Reg16) (v : Word) (s : State) : (setPair r v s).params = s.params := by cases r <;> rfl

@[simp] theorem setStackPair_sp (r : StackPair) (v : Word) (s : State) : (setStackPair r v s).cpu.sp = s.cpu.sp := by cases r <;> rfl
@[simp] theorem setStackPair_pc (r : StackPair) (v : Word) (s : State) : (setStackPair r v s).cpu.pc = s.cpu.pc := by cases r <;> rfl
@[simp] theorem setStackPair_ime (r : StackPair) (v : Word) (s : State) : (setStackPair r v s).cpu.ime = s.cpu.ime := by cases r <;> rfl
@[simp] theorem setStackPair_halted (r : StackPair) (v : Word) (s : State) : (setStackPair r v s).cpu.halted = s.cpu.halted := by cases r <;> rfl
@[simp] theorem setStackPair_mmu (r : StackPair) (v : Word) (s : State) : (setStackPair r v s).mmu = s.mmu := by cases r <;> rfl
@[simp] theorem setStackPair_params (r : StackPair) (v : Word) (s : State) : (setStackPair r v s).params = s.params := by cases r <;> rfl

/-- A register write is local, and what is written is read (10_state R20). -/
theorem getReg_setReg (r q : Reg8) (v : Byte) (s : State) :
    getReg q (setReg r v s) = if q = r then v else getReg q s := by
  cases r <;> cases q <;> rfl

@[simp] theorem getReg_setReg_same (r : Reg8) (v : Byte) (s : State) : getReg r (setReg r v s) = v := by
  cases r <;> rfl

theorem getReg_setReg_other {r q : Reg8} (h : q ≠ r) (v : Byte) (s : State) :
    getReg q (setReg r v s) = getReg q s := by
  rw [getReg_setReg, if_neg h]

@[simp] theorem getReg_advance (q : Reg8) (n : Nat) (s : State) : getReg q (advance n s) = getReg q s := by cases q <;> rfl
@[simp] theorem getReg_jumpTo (q : Reg8) (t : Word) (s : State) : getReg q (jumpTo t s) = getReg q s := by cases q <;> rfl
@[simp] theorem getReg_setSp (q : Reg8) (v : Word) (s : State) : getReg q (setSp v s) = getReg q s := by cases q <;> rfl
@[simp] theorem getReg_setIme (q : Reg8) (v : Bool) (s : State) : getReg q (setIme v s) = getReg q s := by cases q <;> rfl
@[simp] theorem getReg_enterHalt (q : Reg8) (s : State) : getReg q (enterHalt s) = getReg q s := by cases q <;> rfl
@[simp] theorem getReg_setFlags (q : Reg8) (z n h c : Bool) (s : State) : getReg q (setFlags z n h c s) = getReg q s := by cases q <;> rfl
@[simp] theorem getReg_writeByte (q : Reg8) (s : State) (a : Word) (v : Byte) : getReg q (writeByte s a v) = getReg q s := by cases q <;> rfl
@[simp] theorem getReg_writeWord (q : Reg8) (s : State) (a v : Word) : getReg q (writeWord s a v) = getReg q s := by cases q <;> rfl
@[simp] theorem getReg_push16 (q : Reg8) (v : Word) (s : State) : getReg q (push16 v s) = getReg q s := by cases q <;> rfl
@[simp] theorem getReg_dropWord (q : Reg8) (s : State) : getReg q (dropWord s) = getReg q s := by cases q <;> rfl

@[simp] theorem getReg_setPair_sp (q : Reg8) (v : Word) (s : State) : getReg q (setPair .sp v s) = getReg q s := by
  cases q <;> rfl

/-- Writing HL changes H and L alone (10_state R21). -/
theorem getReg_setHL (q : Reg8) (v : Word) (s : State) :
    getReg q (setHL v s) = if q = .h then highByte v else if q = .l then lowByte v else getReg q s := by
  cases q <;> rfl

end Sys2Proof.Machine
end

