-- ==== Sys2Proof/Laws/Mmu.lean ====
section
/-! SUPPORT. Laws of the MMU operations: what a read depends on, what a write can do, and that a write keeps the canonical forms. -/

namespace Sys2Proof.Machine

/-- A read depends on the MMU state and the parameters alone. -/
theorem readByte_congr {s t : State} (hm : t.mmu = s.mmu) (hp : t.params = s.params) (a : Word) :
    readByte t a = readByte s a := by
  simp only [readByte, hm, hp]

/-- Everything `write_byte` can do (20_memory R53): nothing, select a bank, unmap the overlay, or change one storage byte. -/
theorem mmuWrite_cases (p : Params) (m : Mmu) (a : Word) (v : Byte) :
    mmuWrite p m a v = m ∨
    mmuWrite p m a v = { m with bank := selectBank p v } ∨
    mmuWrite p m a v = { m with bootMapped := false } ∨
    (regionOf p.map a = .wram ∧ mmuWrite p m a v = { m with wram := Memory.write m.wram (wramIndex p.map a) v }) ∨
    (regionOf p.map a = .echo ∧ mmuWrite p m a v = { m with wram := Memory.write m.wram (echoIndex p.map a) v }) ∨
    (regionOf p.map a = .io ∧ mmuWrite p m a v = { m with io := Memory.write m.io (ioIndex p.map a) v }) ∨
    (regionOf p.map a = .hram ∧ mmuWrite p m a v = { m with hram := Memory.write m.hram (hramIndex p.map a) v }) ∨
    mmuWrite p m a v = { m with ie := v } := by
  unfold mmuWrite
  cases hr : regionOf p.map a <;> simp only [true_and, true_or, or_true, reduceCtorEq, false_and]
  cases hk : ioKindOf p a <;> simp only [true_or, or_true]
  split <;> simp only [true_or, or_true]

/-- The bounds of a WRAM address. -/
theorem regionOf_wram {m : MapConfig} {a : Word} (h : regionOf m a = .wram) :
    m.extramLast < a.toNat ∧ a.toNat ≤ m.wramLast := by
  unfold regionOf regionRows at h
  iterate 12 (rw [regionIn] at h; split at h; · first | omega | cases h)
  cases h

/-- The bounds of an ECHO address. -/
theorem regionOf_echo {m : MapConfig} {a : Word} (h : regionOf m a = .echo) :
    m.wramLast < a.toNat ∧ a.toNat ≤ m.echoEnd := by
  unfold regionOf regionRows at h
  iterate 12 (rw [regionIn] at h; split at h; · first | omega | cases h)
  cases h

/-- The bounds of an I/O address. -/
theorem regionOf_io {m : MapConfig} {a : Word} (h : regionOf m a = .io) :
    m.unusableLast < a.toNat ∧ a.toNat ≤ m.ioLast := by
  unfold regionOf regionRows at h
  iterate 12 (rw [regionIn] at h; split at h; · first | omega | cases h)
  cases h

/-- The bounds of a HRAM address. -/
theorem regionOf_hram {m : MapConfig} {a : Word} (h : regionOf m a = .hram) :
    m.ioLast < a.toNat ∧ a.toNat ≤ m.hramLast := by
  unfold regionOf regionRows at h
  iterate 12 (rw [regionIn] at h; split at h; · first | omega | cases h)
  cases h

/-- Passing a row of the map whose last address is below the address. -/
theorem regionIn_skip {last n : Nat} (h : last < n) (r : Region) (rows : List (Nat × Region)) :
    regionIn ((last, r) :: rows) n = regionIn rows n := by
  rw [regionIn, if_neg (Nat.not_le.mpr h)]

/-- Stopping at a row of the map. -/
theorem regionIn_stop {last n : Nat} (h : n ≤ last) (r : Region) (rows : List (Nat × Region)) :
    regionIn ((last, r) :: rows) n = r := by
  rw [regionIn, if_pos h]

/-! The regions of the standard map (20_memory R51). -/

theorem regionOf_standard_bootRom0 {a : Word} (hi : a.toNat ≤ 0x00FF) :
    regionOf MapConfig.standard a = .bootRom0 := by
  show regionIn _ a.toNat = _
  simp only [regionRows, MapConfig.standard]
  rw [regionIn_stop (by omega)]

theorem regionOf_standard_rom0 {a : Word} (lo : 0x0100 ≤ a.toNat) (hi : a.toNat ≤ 0x3FFF) :
    regionOf MapConfig.standard a = .rom0 := by
  show regionIn _ a.toNat = _
  simp only [regionRows, MapConfig.standard]
  iterate 1 rw [regionIn_skip (by omega)]
  rw [regionIn_stop (by omega)]

theorem regionOf_standard_romx {a : Word} (lo : 0x4000 ≤ a.toNat) (hi : a.toNat ≤ 0x7FFF) :
    regionOf MapConfig.standard a = .romx := by
  show regionIn _ a.toNat = _
  simp only [regionRows, MapConfig.standard]
  iterate 2 rw [regionIn_skip (by omega)]
  rw [regionIn_stop (by omega)]

theorem regionOf_standard_vram {a : Word} (lo : 0x8000 ≤ a.toNat) (hi : a.toNat ≤ 0x9FFF) :
    regionOf MapConfig.standard a = .vram := by
  show regionIn _ a.toNat = _
  simp only [regionRows, MapConfig.standard]
  iterate 3 rw [regionIn_skip (by omega)]
  rw [regionIn_stop (by omega)]

theorem regionOf_standard_extram {a : Word} (lo : 0xA000 ≤ a.toNat) (hi : a.toNat ≤ 0xBFFF) :
    regionOf MapConfig.standard a = .extram := by
  show regionIn _ a.toNat = _
  simp only [regionRows, MapConfig.standard]
  iterate 4 rw [regionIn_skip (by omega)]
  rw [regionIn_stop (by omega)]

theorem regionOf_standard_wram {a : Word} (lo : 0xC000 ≤ a.toNat) (hi : a.toNat ≤ 0xDFFF) :
    regionOf MapConfig.standard a = .wram := by
  show regionIn _ a.toNat = _
  simp only [regionRows, MapConfig.standard]
  iterate 5 rw [regionIn_skip (by omega)]
  rw [regionIn_stop (by omega)]

theorem regionOf_standard_echo {a : Word} (lo : 0xE000 ≤ a.toNat) (hi : a.toNat ≤ 0xFDFF) :
    regionOf MapConfig.standard a = .echo := by
  show regionIn _ a.toNat = _
  simp only [regionRows, MapConfig.standard]
  iterate 6 rw [regionIn_skip (by omega)]
  rw [regionIn_stop (by omega)]

theorem regionOf_standard_oam {a : Word} (lo : 0xFE00 ≤ a.toNat) (hi : a.toNat ≤ 0xFE9F) :
    regionOf MapConfig.standard a = .oam := by
  show regionIn _ a.toNat = _
  simp only [regionRows, MapConfig.standard]
  iterate 8 rw [regionIn_skip (by omega)]
  rw [regionIn_stop (by omega)]

theorem regionOf_standard_unusable {a : Word} (lo : 0xFEA0 ≤ a.toNat) (hi : a.toNat ≤ 0xFEFF) :
    regionOf MapConfig.standard a = .unusable := by
  show regionIn _ a.toNat = _
  simp only [regionRows, MapConfig.standard]
  iterate 9 rw [regionIn_skip (by omega)]
  rw [regionIn_stop (by omega)]

theorem regionOf_standard_io {a : Word} (lo : 0xFF00 ≤ a.toNat) (hi : a.toNat ≤ 0xFF7F) :
    regionOf MapConfig.standard a = .io := by
  show regionIn _ a.toNat = _
  simp only [regionRows, MapConfig.standard]
  iterate 10 rw [regionIn_skip (by omega)]
  rw [regionIn_stop (by omega)]

theorem regionOf_standard_hram {a : Word} (lo : 0xFF80 ≤ a.toNat) (hi : a.toNat ≤ 0xFFFE) :
    regionOf MapConfig.standard a = .hram := by
  show regionIn _ a.toNat = _
  simp only [regionRows, MapConfig.standard]
  iterate 11 rw [regionIn_skip (by omega)]
  rw [regionIn_stop (by omega)]

theorem regionOf_standard_ie {a : Word} (lo : 0xFFFF ≤ a.toNat) :
    regionOf MapConfig.standard a = .ie := by
  show regionIn _ a.toNat = _
  simp only [regionRows, MapConfig.standard]
  iterate 12 rw [regionIn_skip (by omega)]
  rfl

theorem wramIndex_standard_lt {a : Word} (h : regionOf MapConfig.standard a = .wram) :
    wramIndex MapConfig.standard a < 0x2000 := by
  have hb := regionOf_wram h
  simp only [wramIndex, MapConfig.standard] at hb ⊢
  omega

theorem echoIndex_standard_lt {a : Word} (h : regionOf MapConfig.standard a = .echo) :
    echoIndex MapConfig.standard a < 0x2000 := by
  have hb := regionOf_echo h
  simp only [echoIndex, MapConfig.standard] at hb ⊢
  omega

theorem ioIndex_standard_lt {a : Word} (h : regionOf MapConfig.standard a = .io) :
    ioIndex MapConfig.standard a < 0x80 := by
  have hb := regionOf_io h
  simp only [ioIndex, MapConfig.standard] at hb ⊢
  omega

theorem hramIndex_standard_lt {a : Word} (h : regionOf MapConfig.standard a = .hram) :
    hramIndex MapConfig.standard a < 0x7F := by
  have hb := regionOf_hram h
  simp only [hramIndex, MapConfig.standard] at hb ⊢
  omega

/-- Every storage array stays in canonical form through a write. -/
theorem mmuWrite_canonical (p : Params) (m : Mmu) (a : Word) (v : Byte)
    (hw : Memory.wf m.wram = true) (hh : Memory.wf m.hram = true) (hi : Memory.wf m.io = true) :
    Memory.wf (mmuWrite p m a v).wram = true ∧ Memory.wf (mmuWrite p m a v).hram = true ∧
      Memory.wf (mmuWrite p m a v).io = true := by
  rcases mmuWrite_cases p m a v with h | h | h | ⟨-, h⟩ | ⟨-, h⟩ | ⟨-, h⟩ | ⟨-, h⟩ | h <;> rw [h] <;>
    simp [hw, hh, hi, Memory.wf_write]

/-- On the standard map every storage array keeps its size through a write. -/
theorem mmuWrite_sized {p : Params} (hp : p.map = MapConfig.standard) (m : Mmu) (a : Word) (v : Byte)
    (hw : Memory.below 0x2000 m.wram = true) (hh : Memory.below 0x7F m.hram = true)
    (hi : Memory.below 0x80 m.io = true) :
    Memory.below 0x2000 (mmuWrite p m a v).wram = true ∧ Memory.below 0x7F (mmuWrite p m a v).hram = true ∧
      Memory.below 0x80 (mmuWrite p m a v).io = true := by
  have hc := mmuWrite_cases p m a v
  rw [hp] at hc
  rcases hc with h | h | h | ⟨hr, h⟩ | ⟨hr, h⟩ | ⟨hr, h⟩ | ⟨hr, h⟩ | h <;> rw [h]
  · exact ⟨hw, hh, hi⟩
  · exact ⟨hw, hh, hi⟩
  · exact ⟨hw, hh, hi⟩
  · exact ⟨Memory.below_write _ _ v (wramIndex_standard_lt hr) hw, hh, hi⟩
  · exact ⟨Memory.below_write _ _ v (echoIndex_standard_lt hr) hw, hh, hi⟩
  · exact ⟨hw, hh, Memory.below_write _ _ v (ioIndex_standard_lt hr) hi⟩
  · exact ⟨hw, Memory.below_write _ _ v (hramIndex_standard_lt hr) hh, hi⟩
  · exact ⟨hw, hh, hi⟩

end Sys2Proof.Machine
end

