-- ==== Sys2Proof/Laws/PerInstr.lean ====
section
/-! SUPPORT. One law about every instruction as a term: its encoding has 1, 2 or 3 bytes (spec 30_encoding R90). -/

namespace Sys2Proof.Laws

/-- The encoding has 1, 2 or 3 bytes (R90). -/
def ByteCount.Statement (i : Instr) : Prop := 1 ≤ (encode i).length ∧ (encode i).length ≤ 3

theorem oneByte : 1 ≤ 1 ∧ 1 ≤ 3 := by decide
theorem twoBytes : 1 ≤ 2 ∧ 2 ≤ 3 := by decide
theorem threeBytes : 1 ≤ 3 ∧ 3 ≤ 3 := by decide

theorem ByteCount.nop : ByteCount.Statement .nop := oneByte
theorem ByteCount.ldBcN16 (n : Word) : ByteCount.Statement (.ldBcN16 n) := threeBytes
theorem ByteCount.ldIndBcA : ByteCount.Statement .ldIndBcA := oneByte
theorem ByteCount.incBc : ByteCount.Statement .incBc := oneByte
theorem ByteCount.incB : ByteCount.Statement .incB := oneByte
theorem ByteCount.decB : ByteCount.Statement .decB := oneByte
theorem ByteCount.ldBN8 (n : Byte) : ByteCount.Statement (.ldBN8 n) := twoBytes
theorem ByteCount.rlca : ByteCount.Statement .rlca := oneByte
theorem ByteCount.ldIndA16Sp (a : Word) : ByteCount.Statement (.ldIndA16Sp a) := threeBytes
theorem ByteCount.addHlBc : ByteCount.Statement .addHlBc := oneByte
theorem ByteCount.ldAIndBc : ByteCount.Statement .ldAIndBc := oneByte
theorem ByteCount.decBc : ByteCount.Statement .decBc := oneByte
theorem ByteCount.incC : ByteCount.Statement .incC := oneByte
theorem ByteCount.decC : ByteCount.Statement .decC := oneByte
theorem ByteCount.ldCN8 (n : Byte) : ByteCount.Statement (.ldCN8 n) := twoBytes
theorem ByteCount.rrca : ByteCount.Statement .rrca := oneByte
theorem ByteCount.stop (ignored : Byte) : ByteCount.Statement (.stop ignored) := twoBytes
theorem ByteCount.ldDeN16 (n : Word) : ByteCount.Statement (.ldDeN16 n) := threeBytes
theorem ByteCount.ldIndDeA : ByteCount.Statement .ldIndDeA := oneByte
theorem ByteCount.incDe : ByteCount.Statement .incDe := oneByte
theorem ByteCount.incD : ByteCount.Statement .incD := oneByte
theorem ByteCount.decD : ByteCount.Statement .decD := oneByte
theorem ByteCount.ldDN8 (n : Byte) : ByteCount.Statement (.ldDN8 n) := twoBytes
theorem ByteCount.rla : ByteCount.Statement .rla := oneByte
theorem ByteCount.jrE8 (e : Byte) : ByteCount.Statement (.jrE8 e) := twoBytes
theorem ByteCount.addHlDe : ByteCount.Statement .addHlDe := oneByte
theorem ByteCount.ldAIndDe : ByteCount.Statement .ldAIndDe := oneByte
theorem ByteCount.decDe : ByteCount.Statement .decDe := oneByte
theorem ByteCount.incE : ByteCount.Statement .incE := oneByte
theorem ByteCount.decE : ByteCount.Statement .decE := oneByte
theorem ByteCount.ldEN8 (n : Byte) : ByteCount.Statement (.ldEN8 n) := twoBytes
theorem ByteCount.rra : ByteCount.Statement .rra := oneByte
theorem ByteCount.jrNzE8 (e : Byte) : ByteCount.Statement (.jrNzE8 e) := twoBytes
theorem ByteCount.ldHlN16 (n : Word) : ByteCount.Statement (.ldHlN16 n) := threeBytes
theorem ByteCount.ldIndHlIncA : ByteCount.Statement .ldIndHlIncA := oneByte
theorem ByteCount.incHl : ByteCount.Statement .incHl := oneByte
theorem ByteCount.incH : ByteCount.Statement .incH := oneByte
theorem ByteCount.decH : ByteCount.Statement .decH := oneByte
theorem ByteCount.ldHN8 (n : Byte) : ByteCount.Statement (.ldHN8 n) := twoBytes
theorem ByteCount.daa : ByteCount.Statement .daa := oneByte
theorem ByteCount.jrZE8 (e : Byte) : ByteCount.Statement (.jrZE8 e) := twoBytes
theorem ByteCount.addHlHl : ByteCount.Statement .addHlHl := oneByte
theorem ByteCount.ldAIndHlInc : ByteCount.Statement .ldAIndHlInc := oneByte
theorem ByteCount.decHl : ByteCount.Statement .decHl := oneByte
theorem ByteCount.incL : ByteCount.Statement .incL := oneByte
theorem ByteCount.decL : ByteCount.Statement .decL := oneByte
theorem ByteCount.ldLN8 (n : Byte) : ByteCount.Statement (.ldLN8 n) := twoBytes
theorem ByteCount.cpl : ByteCount.Statement .cpl := oneByte
theorem ByteCount.jrNcE8 (e : Byte) : ByteCount.Statement (.jrNcE8 e) := twoBytes
theorem ByteCount.ldSpN16 (n : Word) : ByteCount.Statement (.ldSpN16 n) := threeBytes
theorem ByteCount.ldIndHlDecA : ByteCount.Statement .ldIndHlDecA := oneByte
theorem ByteCount.incSp : ByteCount.Statement .incSp := oneByte
theorem ByteCount.incIndHl : ByteCount.Statement .incIndHl := oneByte
theorem ByteCount.decIndHl : ByteCount.Statement .decIndHl := oneByte
theorem ByteCount.ldIndHlN8 (n : Byte) : ByteCount.Statement (.ldIndHlN8 n) := twoBytes
theorem ByteCount.scf : ByteCount.Statement .scf := oneByte
theorem ByteCount.jrCE8 (e : Byte) : ByteCount.Statement (.jrCE8 e) := twoBytes
theorem ByteCount.addHlSp : ByteCount.Statement .addHlSp := oneByte
theorem ByteCount.ldAIndHlDec : ByteCount.Statement .ldAIndHlDec := oneByte
theorem ByteCount.decSp : ByteCount.Statement .decSp := oneByte
theorem ByteCount.incA : ByteCount.Statement .incA := oneByte
theorem ByteCount.decA : ByteCount.Statement .decA := oneByte
theorem ByteCount.ldAN8 (n : Byte) : ByteCount.Statement (.ldAN8 n) := twoBytes
theorem ByteCount.ccf : ByteCount.Statement .ccf := oneByte
theorem ByteCount.ldBB : ByteCount.Statement .ldBB := oneByte
theorem ByteCount.ldBC : ByteCount.Statement .ldBC := oneByte
theorem ByteCount.ldBD : ByteCount.Statement .ldBD := oneByte
theorem ByteCount.ldBE : ByteCount.Statement .ldBE := oneByte
theorem ByteCount.ldBH : ByteCount.Statement .ldBH := oneByte
theorem ByteCount.ldBL : ByteCount.Statement .ldBL := oneByte
theorem ByteCount.ldBIndHl : ByteCount.Statement .ldBIndHl := oneByte
theorem ByteCount.ldBA : ByteCount.Statement .ldBA := oneByte
theorem ByteCount.ldCB : ByteCount.Statement .ldCB := oneByte
theorem ByteCount.ldCC : ByteCount.Statement .ldCC := oneByte
theorem ByteCount.ldCD : ByteCount.Statement .ldCD := oneByte
theorem ByteCount.ldCE : ByteCount.Statement .ldCE := oneByte
theorem ByteCount.ldCH : ByteCount.Statement .ldCH := oneByte
theorem ByteCount.ldCL : ByteCount.Statement .ldCL := oneByte
theorem ByteCount.ldCIndHl : ByteCount.Statement .ldCIndHl := oneByte
theorem ByteCount.ldCA : ByteCount.Statement .ldCA := oneByte
theorem ByteCount.ldDB : ByteCount.Statement .ldDB := oneByte
theorem ByteCount.ldDC : ByteCount.Statement .ldDC := oneByte
theorem ByteCount.ldDD : ByteCount.Statement .ldDD := oneByte
theorem ByteCount.ldDE : ByteCount.Statement .ldDE := oneByte
theorem ByteCount.ldDH : ByteCount.Statement .ldDH := oneByte
theorem ByteCount.ldDL : ByteCount.Statement .ldDL := oneByte
theorem ByteCount.ldDIndHl : ByteCount.Statement .ldDIndHl := oneByte
theorem ByteCount.ldDA : ByteCount.Statement .ldDA := oneByte
theorem ByteCount.ldEB : ByteCount.Statement .ldEB := oneByte
theorem ByteCount.ldEC : ByteCount.Statement .ldEC := oneByte
theorem ByteCount.ldED : ByteCount.Statement .ldED := oneByte
theorem ByteCount.ldEE : ByteCount.Statement .ldEE := oneByte
theorem ByteCount.ldEH : ByteCount.Statement .ldEH := oneByte
theorem ByteCount.ldEL : ByteCount.Statement .ldEL := oneByte
theorem ByteCount.ldEIndHl : ByteCount.Statement .ldEIndHl := oneByte
theorem ByteCount.ldEA : ByteCount.Statement .ldEA := oneByte
theorem ByteCount.ldHB : ByteCount.Statement .ldHB := oneByte
theorem ByteCount.ldHC : ByteCount.Statement .ldHC := oneByte
theorem ByteCount.ldHD : ByteCount.Statement .ldHD := oneByte
theorem ByteCount.ldHE : ByteCount.Statement .ldHE := oneByte
theorem ByteCount.ldHH : ByteCount.Statement .ldHH := oneByte
theorem ByteCount.ldHL : ByteCount.Statement .ldHL := oneByte
theorem ByteCount.ldHIndHl : ByteCount.Statement .ldHIndHl := oneByte
theorem ByteCount.ldHA : ByteCount.Statement .ldHA := oneByte
theorem ByteCount.ldLB : ByteCount.Statement .ldLB := oneByte
theorem ByteCount.ldLC : ByteCount.Statement .ldLC := oneByte
theorem ByteCount.ldLD : ByteCount.Statement .ldLD := oneByte
theorem ByteCount.ldLE : ByteCount.Statement .ldLE := oneByte
theorem ByteCount.ldLH : ByteCount.Statement .ldLH := oneByte
theorem ByteCount.ldLL : ByteCount.Statement .ldLL := oneByte
theorem ByteCount.ldLIndHl : ByteCount.Statement .ldLIndHl := oneByte
theorem ByteCount.ldLA : ByteCount.Statement .ldLA := oneByte
theorem ByteCount.ldIndHlB : ByteCount.Statement .ldIndHlB := oneByte
theorem ByteCount.ldIndHlC : ByteCount.Statement .ldIndHlC := oneByte
theorem ByteCount.ldIndHlD : ByteCount.Statement .ldIndHlD := oneByte
theorem ByteCount.ldIndHlE : ByteCount.Statement .ldIndHlE := oneByte
theorem ByteCount.ldIndHlH : ByteCount.Statement .ldIndHlH := oneByte
theorem ByteCount.ldIndHlL : ByteCount.Statement .ldIndHlL := oneByte
theorem ByteCount.halt : ByteCount.Statement .halt := oneByte
theorem ByteCount.ldIndHlA : ByteCount.Statement .ldIndHlA := oneByte
theorem ByteCount.ldAB : ByteCount.Statement .ldAB := oneByte
theorem ByteCount.ldAC : ByteCount.Statement .ldAC := oneByte
theorem ByteCount.ldAD : ByteCount.Statement .ldAD := oneByte
theorem ByteCount.ldAE : ByteCount.Statement .ldAE := oneByte
theorem ByteCount.ldAH : ByteCount.Statement .ldAH := oneByte
theorem ByteCount.ldAL : ByteCount.Statement .ldAL := oneByte
theorem ByteCount.ldAIndHl : ByteCount.Statement .ldAIndHl := oneByte
theorem ByteCount.ldAA : ByteCount.Statement .ldAA := oneByte
theorem ByteCount.addAB : ByteCount.Statement .addAB := oneByte
theorem ByteCount.addAC : ByteCount.Statement .addAC := oneByte
theorem ByteCount.addAD : ByteCount.Statement .addAD := oneByte
theorem ByteCount.addAE : ByteCount.Statement .addAE := oneByte
theorem ByteCount.addAH : ByteCount.Statement .addAH := oneByte
theorem ByteCount.addAL : ByteCount.Statement .addAL := oneByte
theorem ByteCount.addAIndHl : ByteCount.Statement .addAIndHl := oneByte
theorem ByteCount.addAA : ByteCount.Statement .addAA := oneByte
theorem ByteCount.adcAB : ByteCount.Statement .adcAB := oneByte
theorem ByteCount.adcAC : ByteCount.Statement .adcAC := oneByte
theorem ByteCount.adcAD : ByteCount.Statement .adcAD := oneByte
theorem ByteCount.adcAE : ByteCount.Statement .adcAE := oneByte
theorem ByteCount.adcAH : ByteCount.Statement .adcAH := oneByte
theorem ByteCount.adcAL : ByteCount.Statement .adcAL := oneByte
theorem ByteCount.adcAIndHl : ByteCount.Statement .adcAIndHl := oneByte
theorem ByteCount.adcAA : ByteCount.Statement .adcAA := oneByte
theorem ByteCount.subB : ByteCount.Statement .subB := oneByte
theorem ByteCount.subC : ByteCount.Statement .subC := oneByte
theorem ByteCount.subD : ByteCount.Statement .subD := oneByte
theorem ByteCount.subE : ByteCount.Statement .subE := oneByte
theorem ByteCount.subH : ByteCount.Statement .subH := oneByte
theorem ByteCount.subL : ByteCount.Statement .subL := oneByte
theorem ByteCount.subIndHl : ByteCount.Statement .subIndHl := oneByte
theorem ByteCount.subA : ByteCount.Statement .subA := oneByte
theorem ByteCount.sbcAB : ByteCount.Statement .sbcAB := oneByte
theorem ByteCount.sbcAC : ByteCount.Statement .sbcAC := oneByte
theorem ByteCount.sbcAD : ByteCount.Statement .sbcAD := oneByte
theorem ByteCount.sbcAE : ByteCount.Statement .sbcAE := oneByte
theorem ByteCount.sbcAH : ByteCount.Statement .sbcAH := oneByte
theorem ByteCount.sbcAL : ByteCount.Statement .sbcAL := oneByte
theorem ByteCount.sbcAIndHl : ByteCount.Statement .sbcAIndHl := oneByte
theorem ByteCount.sbcAA : ByteCount.Statement .sbcAA := oneByte
theorem ByteCount.andB : ByteCount.Statement .andB := oneByte
theorem ByteCount.andC : ByteCount.Statement .andC := oneByte
theorem ByteCount.andD : ByteCount.Statement .andD := oneByte
theorem ByteCount.andE : ByteCount.Statement .andE := oneByte
theorem ByteCount.andH : ByteCount.Statement .andH := oneByte
theorem ByteCount.andL : ByteCount.Statement .andL := oneByte
theorem ByteCount.andIndHl : ByteCount.Statement .andIndHl := oneByte
theorem ByteCount.andA : ByteCount.Statement .andA := oneByte
theorem ByteCount.xorB : ByteCount.Statement .xorB := oneByte
theorem ByteCount.xorC : ByteCount.Statement .xorC := oneByte
theorem ByteCount.xorD : ByteCount.Statement .xorD := oneByte
theorem ByteCount.xorE : ByteCount.Statement .xorE := oneByte
theorem ByteCount.xorH : ByteCount.Statement .xorH := oneByte
theorem ByteCount.xorL : ByteCount.Statement .xorL := oneByte
theorem ByteCount.xorIndHl : ByteCount.Statement .xorIndHl := oneByte
theorem ByteCount.xorA : ByteCount.Statement .xorA := oneByte
theorem ByteCount.orB : ByteCount.Statement .orB := oneByte
theorem ByteCount.orC : ByteCount.Statement .orC := oneByte
theorem ByteCount.orD : ByteCount.Statement .orD := oneByte
theorem ByteCount.orE : ByteCount.Statement .orE := oneByte
theorem ByteCount.orH : ByteCount.Statement .orH := oneByte
theorem ByteCount.orL : ByteCount.Statement .orL := oneByte
theorem ByteCount.orIndHl : ByteCount.Statement .orIndHl := oneByte
theorem ByteCount.orA : ByteCount.Statement .orA := oneByte
theorem ByteCount.cpB : ByteCount.Statement .cpB := oneByte
theorem ByteCount.cpC : ByteCount.Statement .cpC := oneByte
theorem ByteCount.cpD : ByteCount.Statement .cpD := oneByte
theorem ByteCount.cpE : ByteCount.Statement .cpE := oneByte
theorem ByteCount.cpH : ByteCount.Statement .cpH := oneByte
theorem ByteCount.cpL : ByteCount.Statement .cpL := oneByte
theorem ByteCount.cpIndHl : ByteCount.Statement .cpIndHl := oneByte
theorem ByteCount.cpA : ByteCount.Statement .cpA := oneByte
theorem ByteCount.retNz : ByteCount.Statement .retNz := oneByte
theorem ByteCount.popBc : ByteCount.Statement .popBc := oneByte
theorem ByteCount.jpNzA16 (a : Word) : ByteCount.Statement (.jpNzA16 a) := threeBytes
theorem ByteCount.jpA16 (a : Word) : ByteCount.Statement (.jpA16 a) := threeBytes
theorem ByteCount.callNzA16 (a : Word) : ByteCount.Statement (.callNzA16 a) := threeBytes
theorem ByteCount.pushBc : ByteCount.Statement .pushBc := oneByte
theorem ByteCount.addAN8 (n : Byte) : ByteCount.Statement (.addAN8 n) := twoBytes
theorem ByteCount.rst00 : ByteCount.Statement .rst00 := oneByte
theorem ByteCount.retZ : ByteCount.Statement .retZ := oneByte
theorem ByteCount.ret : ByteCount.Statement .ret := oneByte
theorem ByteCount.jpZA16 (a : Word) : ByteCount.Statement (.jpZA16 a) := threeBytes
theorem ByteCount.prefixCb : ByteCount.Statement .prefixCb := oneByte
theorem ByteCount.callZA16 (a : Word) : ByteCount.Statement (.callZA16 a) := threeBytes
theorem ByteCount.callA16 (a : Word) : ByteCount.Statement (.callA16 a) := threeBytes
theorem ByteCount.adcAN8 (n : Byte) : ByteCount.Statement (.adcAN8 n) := twoBytes
theorem ByteCount.rst08 : ByteCount.Statement .rst08 := oneByte
theorem ByteCount.retNc : ByteCount.Statement .retNc := oneByte
theorem ByteCount.popDe : ByteCount.Statement .popDe := oneByte
theorem ByteCount.jpNcA16 (a : Word) : ByteCount.Statement (.jpNcA16 a) := threeBytes
theorem ByteCount.unrecognizedD3 : ByteCount.Statement .unrecognizedD3 := oneByte
theorem ByteCount.callNcA16 (a : Word) : ByteCount.Statement (.callNcA16 a) := threeBytes
theorem ByteCount.pushDe : ByteCount.Statement .pushDe := oneByte
theorem ByteCount.subN8 (n : Byte) : ByteCount.Statement (.subN8 n) := twoBytes
theorem ByteCount.rst10 : ByteCount.Statement .rst10 := oneByte
theorem ByteCount.retC : ByteCount.Statement .retC := oneByte
theorem ByteCount.reti : ByteCount.Statement .reti := oneByte
theorem ByteCount.jpCA16 (a : Word) : ByteCount.Statement (.jpCA16 a) := threeBytes
theorem ByteCount.unrecognizedDB : ByteCount.Statement .unrecognizedDB := oneByte
theorem ByteCount.callCA16 (a : Word) : ByteCount.Statement (.callCA16 a) := threeBytes
theorem ByteCount.unrecognizedDD : ByteCount.Statement .unrecognizedDD := oneByte
theorem ByteCount.sbcAN8 (n : Byte) : ByteCount.Statement (.sbcAN8 n) := twoBytes
theorem ByteCount.rst18 : ByteCount.Statement .rst18 := oneByte
theorem ByteCount.ldhIndA8A (a8 : Byte) : ByteCount.Statement (.ldhIndA8A a8) := twoBytes
theorem ByteCount.popHl : ByteCount.Statement .popHl := oneByte
theorem ByteCount.ldIndCA : ByteCount.Statement .ldIndCA := oneByte
theorem ByteCount.unrecognizedE3 : ByteCount.Statement .unrecognizedE3 := oneByte
theorem ByteCount.unrecognizedE4 : ByteCount.Statement .unrecognizedE4 := oneByte
theorem ByteCount.pushHl : ByteCount.Statement .pushHl := oneByte
theorem ByteCount.andN8 (n : Byte) : ByteCount.Statement (.andN8 n) := twoBytes
theorem ByteCount.rst20 : ByteCount.Statement .rst20 := oneByte
theorem ByteCount.addSpE8 (e : Byte) : ByteCount.Statement (.addSpE8 e) := twoBytes
theorem ByteCount.jpHl : ByteCount.Statement .jpHl := oneByte
theorem ByteCount.ldIndA16A (a : Word) : ByteCount.Statement (.ldIndA16A a) := threeBytes
theorem ByteCount.unrecognizedEB : ByteCount.Statement .unrecognizedEB := oneByte
theorem ByteCount.unrecognizedEC : ByteCount.Statement .unrecognizedEC := oneByte
theorem ByteCount.unrecognizedED : ByteCount.Statement .unrecognizedED := oneByte
theorem ByteCount.xorN8 (n : Byte) : ByteCount.Statement (.xorN8 n) := twoBytes
theorem ByteCount.rst28 : ByteCount.Statement .rst28 := oneByte
theorem ByteCount.ldhAIndA8 (a8 : Byte) : ByteCount.Statement (.ldhAIndA8 a8) := twoBytes
theorem ByteCount.popAf : ByteCount.Statement .popAf := oneByte
theorem ByteCount.ldAIndC : ByteCount.Statement .ldAIndC := oneByte
theorem ByteCount.di : ByteCount.Statement .di := oneByte
theorem ByteCount.unrecognizedF4 : ByteCount.Statement .unrecognizedF4 := oneByte
theorem ByteCount.pushAf : ByteCount.Statement .pushAf := oneByte
theorem ByteCount.orN8 (n : Byte) : ByteCount.Statement (.orN8 n) := twoBytes
theorem ByteCount.rst30 : ByteCount.Statement .rst30 := oneByte
theorem ByteCount.ldHlSpE8 (e : Byte) : ByteCount.Statement (.ldHlSpE8 e) := twoBytes
theorem ByteCount.ldSpHl : ByteCount.Statement .ldSpHl := oneByte
theorem ByteCount.ldAIndA16 (a : Word) : ByteCount.Statement (.ldAIndA16 a) := threeBytes
theorem ByteCount.ei : ByteCount.Statement .ei := oneByte
theorem ByteCount.unrecognizedFC : ByteCount.Statement .unrecognizedFC := oneByte
theorem ByteCount.unrecognizedFD : ByteCount.Statement .unrecognizedFD := oneByte
theorem ByteCount.cpN8 (n : Byte) : ByteCount.Statement (.cpN8 n) := twoBytes
theorem ByteCount.rst38 : ByteCount.Statement .rst38 := oneByte
theorem ByteCount.rlcB : ByteCount.Statement .rlcB := twoBytes
theorem ByteCount.rlcC : ByteCount.Statement .rlcC := twoBytes
theorem ByteCount.rlcD : ByteCount.Statement .rlcD := twoBytes
theorem ByteCount.rlcE : ByteCount.Statement .rlcE := twoBytes
theorem ByteCount.rlcH : ByteCount.Statement .rlcH := twoBytes
theorem ByteCount.rlcL : ByteCount.Statement .rlcL := twoBytes
theorem ByteCount.rlcIndHl : ByteCount.Statement .rlcIndHl := twoBytes
theorem ByteCount.rlcA : ByteCount.Statement .rlcA := twoBytes
theorem ByteCount.rrcB : ByteCount.Statement .rrcB := twoBytes
theorem ByteCount.rrcC : ByteCount.Statement .rrcC := twoBytes
theorem ByteCount.rrcD : ByteCount.Statement .rrcD := twoBytes
theorem ByteCount.rrcE : ByteCount.Statement .rrcE := twoBytes
theorem ByteCount.rrcH : ByteCount.Statement .rrcH := twoBytes
theorem ByteCount.rrcL : ByteCount.Statement .rrcL := twoBytes
theorem ByteCount.rrcIndHl : ByteCount.Statement .rrcIndHl := twoBytes
theorem ByteCount.rrcA : ByteCount.Statement .rrcA := twoBytes
theorem ByteCount.rlB : ByteCount.Statement .rlB := twoBytes
theorem ByteCount.rlC : ByteCount.Statement .rlC := twoBytes
theorem ByteCount.rlD : ByteCount.Statement .rlD := twoBytes
theorem ByteCount.rlE : ByteCount.Statement .rlE := twoBytes
theorem ByteCount.rlH : ByteCount.Statement .rlH := twoBytes
theorem ByteCount.rlL : ByteCount.Statement .rlL := twoBytes
theorem ByteCount.rlIndHl : ByteCount.Statement .rlIndHl := twoBytes
theorem ByteCount.rlA : ByteCount.Statement .rlA := twoBytes
theorem ByteCount.rrB : ByteCount.Statement .rrB := twoBytes
theorem ByteCount.rrC : ByteCount.Statement .rrC := twoBytes
theorem ByteCount.rrD : ByteCount.Statement .rrD := twoBytes
theorem ByteCount.rrE : ByteCount.Statement .rrE := twoBytes
theorem ByteCount.rrH : ByteCount.Statement .rrH := twoBytes
theorem ByteCount.rrL : ByteCount.Statement .rrL := twoBytes
theorem ByteCount.rrIndHl : ByteCount.Statement .rrIndHl := twoBytes
theorem ByteCount.rrA : ByteCount.Statement .rrA := twoBytes
theorem ByteCount.slaB : ByteCount.Statement .slaB := twoBytes
theorem ByteCount.slaC : ByteCount.Statement .slaC := twoBytes
theorem ByteCount.slaD : ByteCount.Statement .slaD := twoBytes
theorem ByteCount.slaE : ByteCount.Statement .slaE := twoBytes
theorem ByteCount.slaH : ByteCount.Statement .slaH := twoBytes
theorem ByteCount.slaL : ByteCount.Statement .slaL := twoBytes
theorem ByteCount.slaIndHl : ByteCount.Statement .slaIndHl := twoBytes
theorem ByteCount.slaA : ByteCount.Statement .slaA := twoBytes
theorem ByteCount.sraB : ByteCount.Statement .sraB := twoBytes
theorem ByteCount.sraC : ByteCount.Statement .sraC := twoBytes
theorem ByteCount.sraD : ByteCount.Statement .sraD := twoBytes
theorem ByteCount.sraE : ByteCount.Statement .sraE := twoBytes
theorem ByteCount.sraH : ByteCount.Statement .sraH := twoBytes
theorem ByteCount.sraL : ByteCount.Statement .sraL := twoBytes
theorem ByteCount.sraIndHl : ByteCount.Statement .sraIndHl := twoBytes
theorem ByteCount.sraA : ByteCount.Statement .sraA := twoBytes
theorem ByteCount.swapB : ByteCount.Statement .swapB := twoBytes
theorem ByteCount.swapC : ByteCount.Statement .swapC := twoBytes
theorem ByteCount.swapD : ByteCount.Statement .swapD := twoBytes
theorem ByteCount.swapE : ByteCount.Statement .swapE := twoBytes
theorem ByteCount.swapH : ByteCount.Statement .swapH := twoBytes
theorem ByteCount.swapL : ByteCount.Statement .swapL := twoBytes
theorem ByteCount.swapIndHl : ByteCount.Statement .swapIndHl := twoBytes
theorem ByteCount.swapA : ByteCount.Statement .swapA := twoBytes
theorem ByteCount.srlB : ByteCount.Statement .srlB := twoBytes
theorem ByteCount.srlC : ByteCount.Statement .srlC := twoBytes
theorem ByteCount.srlD : ByteCount.Statement .srlD := twoBytes
theorem ByteCount.srlE : ByteCount.Statement .srlE := twoBytes
theorem ByteCount.srlH : ByteCount.Statement .srlH := twoBytes
theorem ByteCount.srlL : ByteCount.Statement .srlL := twoBytes
theorem ByteCount.srlIndHl : ByteCount.Statement .srlIndHl := twoBytes
theorem ByteCount.srlA : ByteCount.Statement .srlA := twoBytes
theorem ByteCount.bit0B : ByteCount.Statement .bit0B := twoBytes
theorem ByteCount.bit0C : ByteCount.Statement .bit0C := twoBytes
theorem ByteCount.bit0D : ByteCount.Statement .bit0D := twoBytes
theorem ByteCount.bit0E : ByteCount.Statement .bit0E := twoBytes
theorem ByteCount.bit0H : ByteCount.Statement .bit0H := twoBytes
theorem ByteCount.bit0L : ByteCount.Statement .bit0L := twoBytes
theorem ByteCount.bit0IndHl : ByteCount.Statement .bit0IndHl := twoBytes
theorem ByteCount.bit0A : ByteCount.Statement .bit0A := twoBytes
theorem ByteCount.bit1B : ByteCount.Statement .bit1B := twoBytes
theorem ByteCount.bit1C : ByteCount.Statement .bit1C := twoBytes
theorem ByteCount.bit1D : ByteCount.Statement .bit1D := twoBytes
theorem ByteCount.bit1E : ByteCount.Statement .bit1E := twoBytes
theorem ByteCount.bit1H : ByteCount.Statement .bit1H := twoBytes
theorem ByteCount.bit1L : ByteCount.Statement .bit1L := twoBytes
theorem ByteCount.bit1IndHl : ByteCount.Statement .bit1IndHl := twoBytes
theorem ByteCount.bit1A : ByteCount.Statement .bit1A := twoBytes
theorem ByteCount.bit2B : ByteCount.Statement .bit2B := twoBytes
theorem ByteCount.bit2C : ByteCount.Statement .bit2C := twoBytes
theorem ByteCount.bit2D : ByteCount.Statement .bit2D := twoBytes
theorem ByteCount.bit2E : ByteCount.Statement .bit2E := twoBytes
theorem ByteCount.bit2H : ByteCount.Statement .bit2H := twoBytes
theorem ByteCount.bit2L : ByteCount.Statement .bit2L := twoBytes
theorem ByteCount.bit2IndHl : ByteCount.Statement .bit2IndHl := twoBytes
theorem ByteCount.bit2A : ByteCount.Statement .bit2A := twoBytes
theorem ByteCount.bit3B : ByteCount.Statement .bit3B := twoBytes
theorem ByteCount.bit3C : ByteCount.Statement .bit3C := twoBytes
theorem ByteCount.bit3D : ByteCount.Statement .bit3D := twoBytes
theorem ByteCount.bit3E : ByteCount.Statement .bit3E := twoBytes
theorem ByteCount.bit3H : ByteCount.Statement .bit3H := twoBytes
theorem ByteCount.bit3L : ByteCount.Statement .bit3L := twoBytes
theorem ByteCount.bit3IndHl : ByteCount.Statement .bit3IndHl := twoBytes
theorem ByteCount.bit3A : ByteCount.Statement .bit3A := twoBytes
theorem ByteCount.bit4B : ByteCount.Statement .bit4B := twoBytes
theorem ByteCount.bit4C : ByteCount.Statement .bit4C := twoBytes
theorem ByteCount.bit4D : ByteCount.Statement .bit4D := twoBytes
theorem ByteCount.bit4E : ByteCount.Statement .bit4E := twoBytes
theorem ByteCount.bit4H : ByteCount.Statement .bit4H := twoBytes
theorem ByteCount.bit4L : ByteCount.Statement .bit4L := twoBytes
theorem ByteCount.bit4IndHl : ByteCount.Statement .bit4IndHl := twoBytes
theorem ByteCount.bit4A : ByteCount.Statement .bit4A := twoBytes
theorem ByteCount.bit5B : ByteCount.Statement .bit5B := twoBytes
theorem ByteCount.bit5C : ByteCount.Statement .bit5C := twoBytes
theorem ByteCount.bit5D : ByteCount.Statement .bit5D := twoBytes
theorem ByteCount.bit5E : ByteCount.Statement .bit5E := twoBytes
theorem ByteCount.bit5H : ByteCount.Statement .bit5H := twoBytes
theorem ByteCount.bit5L : ByteCount.Statement .bit5L := twoBytes
theorem ByteCount.bit5IndHl : ByteCount.Statement .bit5IndHl := twoBytes
theorem ByteCount.bit5A : ByteCount.Statement .bit5A := twoBytes
theorem ByteCount.bit6B : ByteCount.Statement .bit6B := twoBytes
theorem ByteCount.bit6C : ByteCount.Statement .bit6C := twoBytes
theorem ByteCount.bit6D : ByteCount.Statement .bit6D := twoBytes
theorem ByteCount.bit6E : ByteCount.Statement .bit6E := twoBytes
theorem ByteCount.bit6H : ByteCount.Statement .bit6H := twoBytes
theorem ByteCount.bit6L : ByteCount.Statement .bit6L := twoBytes
theorem ByteCount.bit6IndHl : ByteCount.Statement .bit6IndHl := twoBytes
theorem ByteCount.bit6A : ByteCount.Statement .bit6A := twoBytes
theorem ByteCount.bit7B : ByteCount.Statement .bit7B := twoBytes
theorem ByteCount.bit7C : ByteCount.Statement .bit7C := twoBytes
theorem ByteCount.bit7D : ByteCount.Statement .bit7D := twoBytes
theorem ByteCount.bit7E : ByteCount.Statement .bit7E := twoBytes
theorem ByteCount.bit7H : ByteCount.Statement .bit7H := twoBytes
theorem ByteCount.bit7L : ByteCount.Statement .bit7L := twoBytes
theorem ByteCount.bit7IndHl : ByteCount.Statement .bit7IndHl := twoBytes
theorem ByteCount.bit7A : ByteCount.Statement .bit7A := twoBytes
theorem ByteCount.res0B : ByteCount.Statement .res0B := twoBytes
theorem ByteCount.res0C : ByteCount.Statement .res0C := twoBytes
theorem ByteCount.res0D : ByteCount.Statement .res0D := twoBytes
theorem ByteCount.res0E : ByteCount.Statement .res0E := twoBytes
theorem ByteCount.res0H : ByteCount.Statement .res0H := twoBytes
theorem ByteCount.res0L : ByteCount.Statement .res0L := twoBytes
theorem ByteCount.res0IndHl : ByteCount.Statement .res0IndHl := twoBytes
theorem ByteCount.res0A : ByteCount.Statement .res0A := twoBytes
theorem ByteCount.res1B : ByteCount.Statement .res1B := twoBytes
theorem ByteCount.res1C : ByteCount.Statement .res1C := twoBytes
theorem ByteCount.res1D : ByteCount.Statement .res1D := twoBytes
theorem ByteCount.res1E : ByteCount.Statement .res1E := twoBytes
theorem ByteCount.res1H : ByteCount.Statement .res1H := twoBytes
theorem ByteCount.res1L : ByteCount.Statement .res1L := twoBytes
theorem ByteCount.res1IndHl : ByteCount.Statement .res1IndHl := twoBytes
theorem ByteCount.res1A : ByteCount.Statement .res1A := twoBytes
theorem ByteCount.res2B : ByteCount.Statement .res2B := twoBytes
theorem ByteCount.res2C : ByteCount.Statement .res2C := twoBytes
theorem ByteCount.res2D : ByteCount.Statement .res2D := twoBytes
theorem ByteCount.res2E : ByteCount.Statement .res2E := twoBytes
theorem ByteCount.res2H : ByteCount.Statement .res2H := twoBytes
theorem ByteCount.res2L : ByteCount.Statement .res2L := twoBytes
theorem ByteCount.res2IndHl : ByteCount.Statement .res2IndHl := twoBytes
theorem ByteCount.res2A : ByteCount.Statement .res2A := twoBytes
theorem ByteCount.res3B : ByteCount.Statement .res3B := twoBytes
theorem ByteCount.res3C : ByteCount.Statement .res3C := twoBytes
theorem ByteCount.res3D : ByteCount.Statement .res3D := twoBytes
theorem ByteCount.res3E : ByteCount.Statement .res3E := twoBytes
theorem ByteCount.res3H : ByteCount.Statement .res3H := twoBytes
theorem ByteCount.res3L : ByteCount.Statement .res3L := twoBytes
theorem ByteCount.res3IndHl : ByteCount.Statement .res3IndHl := twoBytes
theorem ByteCount.res3A : ByteCount.Statement .res3A := twoBytes
theorem ByteCount.res4B : ByteCount.Statement .res4B := twoBytes
theorem ByteCount.res4C : ByteCount.Statement .res4C := twoBytes
theorem ByteCount.res4D : ByteCount.Statement .res4D := twoBytes
theorem ByteCount.res4E : ByteCount.Statement .res4E := twoBytes
theorem ByteCount.res4H : ByteCount.Statement .res4H := twoBytes
theorem ByteCount.res4L : ByteCount.Statement .res4L := twoBytes
theorem ByteCount.res4IndHl : ByteCount.Statement .res4IndHl := twoBytes
theorem ByteCount.res4A : ByteCount.Statement .res4A := twoBytes
theorem ByteCount.res5B : ByteCount.Statement .res5B := twoBytes
theorem ByteCount.res5C : ByteCount.Statement .res5C := twoBytes
theorem ByteCount.res5D : ByteCount.Statement .res5D := twoBytes
theorem ByteCount.res5E : ByteCount.Statement .res5E := twoBytes
theorem ByteCount.res5H : ByteCount.Statement .res5H := twoBytes
theorem ByteCount.res5L : ByteCount.Statement .res5L := twoBytes
theorem ByteCount.res5IndHl : ByteCount.Statement .res5IndHl := twoBytes
theorem ByteCount.res5A : ByteCount.Statement .res5A := twoBytes
theorem ByteCount.res6B : ByteCount.Statement .res6B := twoBytes
theorem ByteCount.res6C : ByteCount.Statement .res6C := twoBytes
theorem ByteCount.res6D : ByteCount.Statement .res6D := twoBytes
theorem ByteCount.res6E : ByteCount.Statement .res6E := twoBytes
theorem ByteCount.res6H : ByteCount.Statement .res6H := twoBytes
theorem ByteCount.res6L : ByteCount.Statement .res6L := twoBytes
theorem ByteCount.res6IndHl : ByteCount.Statement .res6IndHl := twoBytes
theorem ByteCount.res6A : ByteCount.Statement .res6A := twoBytes
theorem ByteCount.res7B : ByteCount.Statement .res7B := twoBytes
theorem ByteCount.res7C : ByteCount.Statement .res7C := twoBytes
theorem ByteCount.res7D : ByteCount.Statement .res7D := twoBytes
theorem ByteCount.res7E : ByteCount.Statement .res7E := twoBytes
theorem ByteCount.res7H : ByteCount.Statement .res7H := twoBytes
theorem ByteCount.res7L : ByteCount.Statement .res7L := twoBytes
theorem ByteCount.res7IndHl : ByteCount.Statement .res7IndHl := twoBytes
theorem ByteCount.res7A : ByteCount.Statement .res7A := twoBytes
theorem ByteCount.set0B : ByteCount.Statement .set0B := twoBytes
theorem ByteCount.set0C : ByteCount.Statement .set0C := twoBytes
theorem ByteCount.set0D : ByteCount.Statement .set0D := twoBytes
theorem ByteCount.set0E : ByteCount.Statement .set0E := twoBytes
theorem ByteCount.set0H : ByteCount.Statement .set0H := twoBytes
theorem ByteCount.set0L : ByteCount.Statement .set0L := twoBytes
theorem ByteCount.set0IndHl : ByteCount.Statement .set0IndHl := twoBytes
theorem ByteCount.set0A : ByteCount.Statement .set0A := twoBytes
theorem ByteCount.set1B : ByteCount.Statement .set1B := twoBytes
theorem ByteCount.set1C : ByteCount.Statement .set1C := twoBytes
theorem ByteCount.set1D : ByteCount.Statement .set1D := twoBytes
theorem ByteCount.set1E : ByteCount.Statement .set1E := twoBytes
theorem ByteCount.set1H : ByteCount.Statement .set1H := twoBytes
theorem ByteCount.set1L : ByteCount.Statement .set1L := twoBytes
theorem ByteCount.set1IndHl : ByteCount.Statement .set1IndHl := twoBytes
theorem ByteCount.set1A : ByteCount.Statement .set1A := twoBytes
theorem ByteCount.set2B : ByteCount.Statement .set2B := twoBytes
theorem ByteCount.set2C : ByteCount.Statement .set2C := twoBytes
theorem ByteCount.set2D : ByteCount.Statement .set2D := twoBytes
theorem ByteCount.set2E : ByteCount.Statement .set2E := twoBytes
theorem ByteCount.set2H : ByteCount.Statement .set2H := twoBytes
theorem ByteCount.set2L : ByteCount.Statement .set2L := twoBytes
theorem ByteCount.set2IndHl : ByteCount.Statement .set2IndHl := twoBytes
theorem ByteCount.set2A : ByteCount.Statement .set2A := twoBytes
theorem ByteCount.set3B : ByteCount.Statement .set3B := twoBytes
theorem ByteCount.set3C : ByteCount.Statement .set3C := twoBytes
theorem ByteCount.set3D : ByteCount.Statement .set3D := twoBytes
theorem ByteCount.set3E : ByteCount.Statement .set3E := twoBytes
theorem ByteCount.set3H : ByteCount.Statement .set3H := twoBytes
theorem ByteCount.set3L : ByteCount.Statement .set3L := twoBytes
theorem ByteCount.set3IndHl : ByteCount.Statement .set3IndHl := twoBytes
theorem ByteCount.set3A : ByteCount.Statement .set3A := twoBytes
theorem ByteCount.set4B : ByteCount.Statement .set4B := twoBytes
theorem ByteCount.set4C : ByteCount.Statement .set4C := twoBytes
theorem ByteCount.set4D : ByteCount.Statement .set4D := twoBytes
theorem ByteCount.set4E : ByteCount.Statement .set4E := twoBytes
theorem ByteCount.set4H : ByteCount.Statement .set4H := twoBytes
theorem ByteCount.set4L : ByteCount.Statement .set4L := twoBytes
theorem ByteCount.set4IndHl : ByteCount.Statement .set4IndHl := twoBytes
theorem ByteCount.set4A : ByteCount.Statement .set4A := twoBytes
theorem ByteCount.set5B : ByteCount.Statement .set5B := twoBytes
theorem ByteCount.set5C : ByteCount.Statement .set5C := twoBytes
theorem ByteCount.set5D : ByteCount.Statement .set5D := twoBytes
theorem ByteCount.set5E : ByteCount.Statement .set5E := twoBytes
theorem ByteCount.set5H : ByteCount.Statement .set5H := twoBytes
theorem ByteCount.set5L : ByteCount.Statement .set5L := twoBytes
theorem ByteCount.set5IndHl : ByteCount.Statement .set5IndHl := twoBytes
theorem ByteCount.set5A : ByteCount.Statement .set5A := twoBytes
theorem ByteCount.set6B : ByteCount.Statement .set6B := twoBytes
theorem ByteCount.set6C : ByteCount.Statement .set6C := twoBytes
theorem ByteCount.set6D : ByteCount.Statement .set6D := twoBytes
theorem ByteCount.set6E : ByteCount.Statement .set6E := twoBytes
theorem ByteCount.set6H : ByteCount.Statement .set6H := twoBytes
theorem ByteCount.set6L : ByteCount.Statement .set6L := twoBytes
theorem ByteCount.set6IndHl : ByteCount.Statement .set6IndHl := twoBytes
theorem ByteCount.set6A : ByteCount.Statement .set6A := twoBytes
theorem ByteCount.set7B : ByteCount.Statement .set7B := twoBytes
theorem ByteCount.set7C : ByteCount.Statement .set7C := twoBytes
theorem ByteCount.set7D : ByteCount.Statement .set7D := twoBytes
theorem ByteCount.set7E : ByteCount.Statement .set7E := twoBytes
theorem ByteCount.set7H : ByteCount.Statement .set7H := twoBytes
theorem ByteCount.set7L : ByteCount.Statement .set7L := twoBytes
theorem ByteCount.set7IndHl : ByteCount.Statement .set7IndHl := twoBytes
theorem ByteCount.set7A : ByteCount.Statement .set7A := twoBytes

end Sys2Proof.Laws
end

