-- ==== Sys2Proof/Laws/Step.lean ====
section
/-! SUPPORT. What any instruction can do to the MMU, the parameters and F[3:0], said once: one lemma for each shared operation, and one for
`exec`. -/

namespace Sys2Proof.Machine

/-- The MMU states that writes reach from one (20_memory R53). -/
inductive WrittenFrom (p : Params) (m : Mmu) : Mmu → Prop where
  | start : WrittenFrom p m m
  | write {m' : Mmu} (h : WrittenFrom p m m') (a : Word) (v : Byte) : WrittenFrom p m (mmuWrite p m' a v)

/-- What an instruction can do outside the CPU registers: the parameters stay, the MMU changes by byte writes alone, and F[3:0] stays or becomes
zero. -/
structure Evolves (s t : State) : Prop where
  params : t.params = s.params
  mmu : WrittenFrom s.params s.mmu t.mmu
  low : t.cpu.f &&& 0x0F#8 = s.cpu.f &&& 0x0F#8 ∨ t.cpu.f &&& 0x0F#8 = 0x00#8

theorem Evolves.same (s : State) : Evolves s s := ⟨rfl, .start, .inl rfl⟩

/-- An update that keeps the MMU, the parameters and F. -/
theorem Evolves.of_kept {s t u : State} (h : Evolves s t) (hm : u.mmu = t.mmu) (hp : u.params = t.params)
    (hf : u.cpu.f = t.cpu.f) : Evolves s u :=
  ⟨hp.trans h.params, hm ▸ h.mmu, hf ▸ h.low⟩

theorem Evolves.advance {s t : State} (h : Evolves s t) (n : Nat) : Evolves s (Machine.advance n t) :=
  h.of_kept rfl rfl rfl

theorem Evolves.jumpTo {s t : State} (h : Evolves s t) (a : Word) : Evolves s (Machine.jumpTo a t) :=
  h.of_kept rfl rfl rfl

theorem Evolves.setSp {s t : State} (h : Evolves s t) (v : Word) : Evolves s (Machine.setSp v t) :=
  h.of_kept rfl rfl rfl

theorem Evolves.setIme {s t : State} (h : Evolves s t) (v : Bool) : Evolves s (Machine.setIme v t) :=
  h.of_kept rfl rfl rfl

theorem Evolves.enterHalt {s t : State} (h : Evolves s t) : Evolves s (Machine.enterHalt t) :=
  h.of_kept rfl rfl rfl

theorem Evolves.dropWord {s t : State} (h : Evolves s t) : Evolves s (Machine.dropWord t) :=
  h.of_kept rfl rfl rfl

theorem Evolves.setHL {s t : State} (h : Evolves s t) (v : Word) : Evolves s (Machine.setHL v t) :=
  h.of_kept rfl rfl rfl

theorem Evolves.setReg {s t : State} (h : Evolves s t) (r : Reg8) (v : Byte) : Evolves s (Machine.setReg r v t) :=
  h.of_kept (by simp) (by simp) (by simp)

theorem Evolves.setPair {s t : State} (h : Evolves s t) (rr : Reg16) (v : Word) :
    Evolves s (Machine.setPair rr v t) :=
  h.of_kept (by simp) (by simp) (by simp)

theorem Evolves.setFlags {s t : State} (h : Evolves s t) (z n hf c : Bool) :
    Evolves s (Machine.setFlags z n hf c t) :=
  ⟨h.params, h.mmu, by simpa [lowNibble_withFlags] using h.low⟩

theorem Evolves.writeByte {s t : State} (h : Evolves s t) (a : Word) (v : Byte) :
    Evolves s (Machine.writeByte t a v) :=
  ⟨h.params, by simpa [h.params] using h.mmu.write a v, h.low⟩

theorem Evolves.writeWord {s t : State} (h : Evolves s t) (a v : Word) : Evolves s (Machine.writeWord t a v) :=
  (h.writeByte a (lowByte v)).writeByte (a + 1#16) (highByte v)

theorem Evolves.push16 {s t : State} (h : Evolves s t) (v : Word) : Evolves s (Machine.push16 v t) :=
  (h.setSp _).writeWord _ _

theorem Evolves.putLoc {s t : State} (h : Evolves s t) (x : Loc) (v : Byte) : Evolves s (Machine.putLoc x v t) := by
  cases x with
  | reg r => exact h.setReg r v
  | indHl => exact h.writeByte _ v

/-- POP into AF forces F[3:0] to zero (40_loads R147). -/
theorem Evolves.setStackPair {s t : State} (h : Evolves s t) (q : StackPair) (v : Word) :
    Evolves s (Machine.setStackPair q v t) := by
  cases q with
  | bc => exact h.of_kept rfl rfl rfl
  | de => exact h.of_kept rfl rfl rfl
  | hl => exact h.of_kept rfl rfl rfl
  | af =>
    refine ⟨h.params, h.mmu, .inr ?_⟩
    show lowByte v &&& 0xF0#8 &&& 0x0F#8 = 0x00#8
    rw [BitVec.and_assoc]
    simp

theorem Evolves.loadReg (dst r : Reg8) (s : State) : Evolves s (Machine.loadReg dst r s) :=
  ((same s).advance 1).setReg dst _

theorem Evolves.loadRegImm (dst : Reg8) (n : Byte) (s : State) : Evolves s (Machine.loadRegImm dst n s) :=
  ((same s).advance 2).setReg dst n

theorem Evolves.loadRegIndHl (dst : Reg8) (s : State) : Evolves s (Machine.loadRegIndHl dst s) :=
  ((same s).advance 1).setReg dst _

theorem Evolves.storeIndHl (r : Reg8) (s : State) : Evolves s (Machine.storeIndHl r s) :=
  ((same s).advance 1).writeByte _ _

theorem Evolves.loadA (len : Nat) (a : Word) (s : State) : Evolves s (Machine.loadA len a s) :=
  ((same s).advance len).setReg .a _

theorem Evolves.storeA (len : Nat) (a : Word) (s : State) : Evolves s (Machine.storeA len a s) :=
  ((same s).advance len).writeByte a _

theorem Evolves.loadAStep (delta : Word) (s : State) : Evolves s (Machine.loadAStep delta s) :=
  (loadA 1 _ s).setHL _

theorem Evolves.storeAStep (delta : Word) (s : State) : Evolves s (Machine.storeAStep delta s) :=
  (storeA 1 _ s).setHL _

theorem Evolves.loadPairImm (rr : Reg16) (n : Word) (s : State) : Evolves s (Machine.loadPairImm rr n s) :=
  ((same s).advance 3).setPair rr n

theorem Evolves.pushPair (q : StackPair) (s : State) : Evolves s (Machine.pushPair q s) :=
  ((same s).advance 1).push16 _

theorem Evolves.popPair (q : StackPair) (s : State) : Evolves s (Machine.popPair q s) :=
  ((same s).advance 1).dropWord.setStackPair q _

theorem Evolves.writeAluResult {s t : State} (h : Evolves s t) (op : AluOp) (x : AluResult) :
    Evolves s (Machine.writeAluResult op x t) := by
  cases op <;> first | exact h | exact h.setReg .a _

theorem Evolves.aluOnA (op : AluOp) (len : Nat) (v : Byte) (s : State) : Evolves s (Machine.aluOnA op len v s) :=
  (((same s).advance len).writeAluResult op _).setFlags _ _ _ _

theorem Evolves.aluLoc (op : AluOp) (x : Loc) (s : State) : Evolves s (Machine.aluLoc op x s) :=
  aluOnA op 1 _ s

theorem Evolves.aluImm (op : AluOp) (n : Byte) (s : State) : Evolves s (Machine.aluImm op n s) :=
  aluOnA op 2 n s

theorem Evolves.incLoc (x : Loc) (s : State) : Evolves s (Machine.incLoc x s) :=
  (((same s).advance 1).putLoc x _).setFlags _ _ _ _

theorem Evolves.decLoc (x : Loc) (s : State) : Evolves s (Machine.decLoc x s) :=
  (((same s).advance 1).putLoc x _).setFlags _ _ _ _

theorem Evolves.decimalAdjust (s : State) : Evolves s (Machine.decimalAdjust s) :=
  (((same s).advance 1).setReg .a _).setFlags _ _ _ _

theorem Evolves.complementA (s : State) : Evolves s (Machine.complementA s) :=
  (((same s).advance 1).setReg .a _).setFlags _ _ _ _

theorem Evolves.writeCarry (c : Bool) (s : State) : Evolves s (Machine.writeCarry c s) :=
  ((same s).advance 1).setFlags _ _ _ _

theorem Evolves.rotateA (op : ShiftOp) (s : State) : Evolves s (Machine.rotateA op s) :=
  (((same s).advance 1).setReg .a _).setFlags _ _ _ _

theorem Evolves.addToHL (rr : Reg16) (s : State) : Evolves s (Machine.addToHL rr s) :=
  (((same s).advance 1).setHL _).setFlags _ _ _ _

theorem Evolves.stepPair (rr : Reg16) (delta : Word) (s : State) : Evolves s (Machine.stepPair rr delta s) :=
  ((same s).advance 1).setPair rr _

theorem Evolves.setSpAddFlags {s t : State} (h : Evolves s t) (x : WordSum) :
    Evolves s (Machine.setSpAddFlags x t) :=
  h.setFlags _ _ _ _

theorem Evolves.jumpAbs (taken : Bool) (a : Word) (s : State) : Evolves s (Machine.jumpAbs taken a s) := by
  cases taken with
  | true => exact ((same s).advance 3).jumpTo a
  | false => exact (same s).advance 3

theorem Evolves.jumpRel (taken : Bool) (e : Byte) (s : State) : Evolves s (Machine.jumpRel taken e s) := by
  cases taken with
  | true => exact ((same s).advance 2).jumpTo _
  | false => exact (same s).advance 2

theorem Evolves.callAbs (taken : Bool) (a : Word) (s : State) : Evolves s (Machine.callAbs taken a s) := by
  cases taken with
  | true => exact (((same s).advance 3).push16 _).jumpTo a
  | false => exact (same s).advance 3

theorem Evolves.returnFrom (taken : Bool) (s : State) : Evolves s (Machine.returnFrom taken s) := by
  cases taken with
  | true => exact ((same s).advance 1).dropWord.jumpTo _
  | false => exact (same s).advance 1

theorem Evolves.restartAt (t : Word) (s : State) : Evolves s (Machine.restartAt t s) :=
  (((same s).advance 1).push16 _).jumpTo t

theorem Evolves.shiftLoc (op : ShiftOp) (x : Loc) (s : State) : Evolves s (Machine.shiftLoc op x s) :=
  (((same s).advance 2).putLoc x _).setFlags _ _ _ _

theorem Evolves.testBit (b : Fin 8) (x : Loc) (s : State) : Evolves s (Machine.testBit b x s) :=
  ((same s).advance 2).setFlags _ _ _ _

theorem Evolves.resetBit (b : Fin 8) (x : Loc) (s : State) : Evolves s (Machine.resetBit b x s) :=
  ((same s).advance 2).putLoc x _

theorem Evolves.setBit (b : Fin 8) (x : Loc) (s : State) : Evolves s (Machine.setBit b x s) :=
  ((same s).advance 2).putLoc x _

theorem Evolves.executeCb (cb : Byte) (s : State) : Evolves s (Machine.executeCb cb s) := by
  unfold Machine.executeCb
  split
  · exact shiftLoc _ _ s
  · exact testBit _ _ s
  · exact resetBit _ _ s
  · exact setBit _ _ s

theorem Evolves.stopCore (s : State) : Evolves s (Machine.stopCore s) := by
  unfold Machine.stopCore
  split
  · exact (same s).advance 1
  · exact (same s).advance 2
  · exact ((same s).advance 2).enterHalt

/-! What the shared operations of the meanings keep. -/

@[simp] theorem putLoc_f (x : Loc) (v : Byte) (s : State) : (putLoc x v s).cpu.f = s.cpu.f := by
  rcases x with r | _
  · cases r <;> rfl
  · rfl
@[simp] theorem putLoc_sp (x : Loc) (v : Byte) (s : State) : (putLoc x v s).cpu.sp = s.cpu.sp := by
  rcases x with r | _
  · cases r <;> rfl
  · rfl
@[simp] theorem putLoc_pc (x : Loc) (v : Byte) (s : State) : (putLoc x v s).cpu.pc = s.cpu.pc := by
  rcases x with r | _
  · cases r <;> rfl
  · rfl
@[simp] theorem putLoc_ime (x : Loc) (v : Byte) (s : State) : (putLoc x v s).cpu.ime = s.cpu.ime := by
  rcases x with r | _
  · cases r <;> rfl
  · rfl
@[simp] theorem putLoc_halted (x : Loc) (v : Byte) (s : State) : (putLoc x v s).cpu.halted = s.cpu.halted := by
  rcases x with r | _
  · cases r <;> rfl
  · rfl
@[simp] theorem putLoc_params (x : Loc) (v : Byte) (s : State) : (putLoc x v s).params = s.params := by
  rcases x with r | _
  · cases r <;> rfl
  · rfl

@[simp] theorem writeAluResult_f (op : AluOp) (x : AluResult) (s : State) :
    (writeAluResult op x s).cpu.f = s.cpu.f := by
  cases op <;> rfl
@[simp] theorem writeAluResult_sp (op : AluOp) (x : AluResult) (s : State) :
    (writeAluResult op x s).cpu.sp = s.cpu.sp := by
  cases op <;> rfl
@[simp] theorem writeAluResult_pc (op : AluOp) (x : AluResult) (s : State) :
    (writeAluResult op x s).cpu.pc = s.cpu.pc := by
  cases op <;> rfl
@[simp] theorem writeAluResult_ime (op : AluOp) (x : AluResult) (s : State) :
    (writeAluResult op x s).cpu.ime = s.cpu.ime := by
  cases op <;> rfl
@[simp] theorem writeAluResult_halted (op : AluOp) (x : AluResult) (s : State) :
    (writeAluResult op x s).cpu.halted = s.cpu.halted := by
  cases op <;> rfl
@[simp] theorem writeAluResult_mmu (op : AluOp) (x : AluResult) (s : State) :
    (writeAluResult op x s).mmu = s.mmu := by
  cases op <;> rfl
@[simp] theorem writeAluResult_params (op : AluOp) (x : AluResult) (s : State) :
    (writeAluResult op x s).params = s.params := by
  cases op <;> rfl

@[simp] theorem jumpAbs_f (taken : Bool) (a : Word) (s : State) : (jumpAbs taken a s).cpu.f = s.cpu.f := by
  cases taken <;> rfl
@[simp] theorem jumpAbs_sp (taken : Bool) (a : Word) (s : State) : (jumpAbs taken a s).cpu.sp = s.cpu.sp := by
  cases taken <;> rfl
@[simp] theorem jumpAbs_ime (taken : Bool) (a : Word) (s : State) : (jumpAbs taken a s).cpu.ime = s.cpu.ime := by
  cases taken <;> rfl
@[simp] theorem jumpAbs_halted (taken : Bool) (a : Word) (s : State) : (jumpAbs taken a s).cpu.halted = s.cpu.halted := by
  cases taken <;> rfl
@[simp] theorem jumpAbs_mmu (taken : Bool) (a : Word) (s : State) : (jumpAbs taken a s).mmu = s.mmu := by
  cases taken <;> rfl

@[simp] theorem jumpRel_f (taken : Bool) (e : Byte) (s : State) : (jumpRel taken e s).cpu.f = s.cpu.f := by
  cases taken <;> rfl
@[simp] theorem jumpRel_sp (taken : Bool) (e : Byte) (s : State) : (jumpRel taken e s).cpu.sp = s.cpu.sp := by
  cases taken <;> rfl
@[simp] theorem jumpRel_ime (taken : Bool) (e : Byte) (s : State) : (jumpRel taken e s).cpu.ime = s.cpu.ime := by
  cases taken <;> rfl
@[simp] theorem jumpRel_halted (taken : Bool) (e : Byte) (s : State) : (jumpRel taken e s).cpu.halted = s.cpu.halted := by
  cases taken <;> rfl
@[simp] theorem jumpRel_mmu (taken : Bool) (e : Byte) (s : State) : (jumpRel taken e s).mmu = s.mmu := by
  cases taken <;> rfl

@[simp] theorem callAbs_f (taken : Bool) (a : Word) (s : State) : (callAbs taken a s).cpu.f = s.cpu.f := by
  cases taken <;> rfl
@[simp] theorem callAbs_ime (taken : Bool) (a : Word) (s : State) : (callAbs taken a s).cpu.ime = s.cpu.ime := by
  cases taken <;> rfl
@[simp] theorem callAbs_halted (taken : Bool) (a : Word) (s : State) : (callAbs taken a s).cpu.halted = s.cpu.halted := by
  cases taken <;> rfl

@[simp] theorem returnFrom_f (taken : Bool) (s : State) : (returnFrom taken s).cpu.f = s.cpu.f := by
  cases taken <;> rfl
@[simp] theorem returnFrom_ime (taken : Bool) (s : State) : (returnFrom taken s).cpu.ime = s.cpu.ime := by
  cases taken <;> rfl
@[simp] theorem returnFrom_halted (taken : Bool) (s : State) : (returnFrom taken s).cpu.halted = s.cpu.halted := by
  cases taken <;> rfl
@[simp] theorem returnFrom_mmu (taken : Bool) (s : State) : (returnFrom taken s).mmu = s.mmu := by
  cases taken <;> rfl

@[simp] theorem stepPair_f (rr : Reg16) (delta : Word) (s : State) : (stepPair rr delta s).cpu.f = s.cpu.f := by
  simp [stepPair]
@[simp] theorem stepPair_ime (rr : Reg16) (delta : Word) (s : State) : (stepPair rr delta s).cpu.ime = s.cpu.ime := by
  simp [stepPair]
@[simp] theorem stepPair_halted (rr : Reg16) (delta : Word) (s : State) :
    (stepPair rr delta s).cpu.halted = s.cpu.halted := by
  simp [stepPair]
@[simp] theorem stepPair_mmu (rr : Reg16) (delta : Word) (s : State) : (stepPair rr delta s).mmu = s.mmu := by
  simp [stepPair]

@[simp] theorem executeCb_sp (cb : Byte) (s : State) : (executeCb cb s).cpu.sp = s.cpu.sp := by
  unfold executeCb
  split <;> simp [shiftLoc, testBit, resetBit, setBit]
@[simp] theorem executeCb_ime (cb : Byte) (s : State) : (executeCb cb s).cpu.ime = s.cpu.ime := by
  unfold executeCb
  split <;> simp [shiftLoc, testBit, resetBit, setBit]
@[simp] theorem executeCb_halted (cb : Byte) (s : State) : (executeCb cb s).cpu.halted = s.cpu.halted := by
  unfold executeCb
  split <;> simp [shiftLoc, testBit, resetBit, setBit]
@[simp] theorem stopCore_f (s : State) : (stopCore s).cpu.f = s.cpu.f := by
  unfold stopCore
  split <;> rfl
@[simp] theorem stopCore_sp (s : State) : (stopCore s).cpu.sp = s.cpu.sp := by
  unfold stopCore
  split <;> rfl
@[simp] theorem stopCore_ime (s : State) : (stopCore s).cpu.ime = s.cpu.ime := by
  unfold stopCore
  split <;> rfl

/-- Everything an instruction can do to the MMU, the parameters and F[3:0], when it answers a next state. -/
theorem exec_evolves (i : Instr) {s t : State} (h : exec i s = .next t) : Evolves s t := by
  suffices hi : ∃ u, exec i s = .next u ∧ Evolves s u by
    obtain ⟨u, hu, he⟩ := hi
    rw [hu] at h
    cases h
    exact he
  cases i <;> refine ⟨_, rfl, ?_⟩ <;>
    first
      | with_reducible exact (Evolves.same s).advance 1
      | with_reducible exact Evolves.loadReg _ _ s
      | with_reducible exact Evolves.loadRegImm _ _ s
      | with_reducible exact Evolves.aluLoc _ _ s
      | with_reducible exact Evolves.shiftLoc _ _ s
      | with_reducible exact Evolves.testBit _ _ s
      | with_reducible exact Evolves.resetBit _ _ s
      | with_reducible exact Evolves.setBit _ _ s
      | with_reducible exact Evolves.loadRegIndHl _ s
      | with_reducible exact Evolves.storeIndHl _ s
      | with_reducible exact Evolves.loadA _ _ s
      | with_reducible exact Evolves.storeA _ _ s
      | with_reducible exact Evolves.loadAStep _ s
      | with_reducible exact Evolves.storeAStep _ s
      | with_reducible exact Evolves.loadPairImm _ _ s
      | with_reducible exact Evolves.pushPair _ s
      | with_reducible exact Evolves.popPair _ s
      | with_reducible exact Evolves.aluImm _ _ s
      | with_reducible exact Evolves.incLoc _ s
      | with_reducible exact Evolves.decLoc _ s
      | with_reducible exact Evolves.decimalAdjust s
      | with_reducible exact Evolves.complementA s
      | with_reducible exact Evolves.writeCarry _ s
      | with_reducible exact Evolves.rotateA _ s
      | with_reducible exact Evolves.addToHL _ s
      | with_reducible exact Evolves.stepPair _ _ s
      | with_reducible exact Evolves.jumpAbs _ _ s
      | with_reducible exact Evolves.jumpRel _ _ s
      | with_reducible exact Evolves.callAbs _ _ s
      | with_reducible exact Evolves.returnFrom _ s
      | with_reducible exact (Evolves.returnFrom _ s).setIme true
      | with_reducible exact Evolves.restartAt _ s
      | with_reducible exact Evolves.executeCb _ s
      | with_reducible exact Evolves.stopCore s
      | with_reducible exact ((Evolves.same s).advance 1).setIme _
      | with_reducible exact ((Evolves.same s).advance 1).enterHalt
      | with_reducible exact ((Evolves.same s).advance 1).jumpTo _
      | with_reducible exact ((Evolves.same s).advance 1).setSp _
      | with_reducible exact ((Evolves.same s).advance 2).writeByte _ _
      | with_reducible exact ((Evolves.same s).advance 3).writeWord _ _
      | with_reducible exact (((Evolves.same s).advance 2).setSp _).setSpAddFlags _
      | with_reducible exact (((Evolves.same s).advance 2).setHL _).setSpAddFlags _

end Sys2Proof.Machine
end

