-- ==== Sys2Proof/Tests/Slice0.lean ====
section
/-! SUPPORT. The tests: the smoke test of WellFormed, the decoding of every row of the opcode table, steps of 95_test_vectors, and a witness for the
hypotheses of each statement. Every expected value is the spec's. -/

namespace Sys2Proof.Tests

open Sys2Proof Sys2Proof.Machine

/-! ## WellFormed -/

/-- Byte 0xCB is a prefix and not an instruction (30_encoding R104). -/
theorem test_bare_prefix_refused : Instr.prefixCb.wellFormed = false := by decide

theorem test_cb_instruction_accepted : Instr.bit7A.wellFormed = true := by decide

/-! ## Decoding, one word for each row of the table, written from `match`; immediate bytes 0x34 and 0x12 -/

/-- What the front of a byte list decodes to when nothing is left over. -/
def whole (bs : List Byte) : Option Instr :=
  match decode bs with
  | .ok (i, []) => some i
  | .ok (_, _ :: _) => none
  | .error _ => none

theorem test_decode_primary_row0 :
    [
      whole [0x00#8], whole [0x01#8, 0x34#8, 0x12#8], whole [0x02#8], whole [0x03#8], whole [0x04#8], whole [0x05#8],
      whole [0x06#8, 0x34#8], whole [0x07#8], whole [0x08#8, 0x34#8, 0x12#8], whole [0x09#8], whole [0x0A#8],
      whole [0x0B#8], whole [0x0C#8], whole [0x0D#8], whole [0x0E#8, 0x34#8], whole [0x0F#8] ] =
    [some .nop, some (.ldBcN16 0x1234#16), some .ldIndBcA, some .incBc, some .incB, some .decB,
      some (.ldBN8 0x34#8), some .rlca, some (.ldIndA16Sp 0x1234#16), some .addHlBc, some .ldAIndBc, some .decBc,
      some .incC, some .decC, some (.ldCN8 0x34#8), some .rrca ] := by
  rfl

theorem test_decode_primary_row1 :
    [
      whole [0x10#8, 0x34#8], whole [0x11#8, 0x34#8, 0x12#8], whole [0x12#8], whole [0x13#8], whole [0x14#8],
      whole [0x15#8], whole [0x16#8, 0x34#8], whole [0x17#8], whole [0x18#8, 0x34#8], whole [0x19#8], whole [0x1A#8],
      whole [0x1B#8], whole [0x1C#8], whole [0x1D#8], whole [0x1E#8, 0x34#8], whole [0x1F#8] ] =
    [some (.stop 0x34#8), some (.ldDeN16 0x1234#16), some .ldIndDeA, some .incDe, some .incD, some .decD,
      some (.ldDN8 0x34#8), some .rla, some (.jrE8 0x34#8), some .addHlDe, some .ldAIndDe, some .decDe, some .incE,
      some .decE, some (.ldEN8 0x34#8), some .rra ] := by
  rfl

theorem test_decode_primary_row2 :
    [
      whole [0x20#8, 0x34#8], whole [0x21#8, 0x34#8, 0x12#8], whole [0x22#8], whole [0x23#8], whole [0x24#8],
      whole [0x25#8], whole [0x26#8, 0x34#8], whole [0x27#8], whole [0x28#8, 0x34#8], whole [0x29#8], whole [0x2A#8],
      whole [0x2B#8], whole [0x2C#8], whole [0x2D#8], whole [0x2E#8, 0x34#8], whole [0x2F#8] ] =
    [some (.jrNzE8 0x34#8), some (.ldHlN16 0x1234#16), some .ldIndHlIncA, some .incHl, some .incH, some .decH,
      some (.ldHN8 0x34#8), some .daa, some (.jrZE8 0x34#8), some .addHlHl, some .ldAIndHlInc, some .decHl,
      some .incL, some .decL, some (.ldLN8 0x34#8), some .cpl ] := by
  rfl

theorem test_decode_primary_row3 :
    [
      whole [0x30#8, 0x34#8], whole [0x31#8, 0x34#8, 0x12#8], whole [0x32#8], whole [0x33#8], whole [0x34#8],
      whole [0x35#8], whole [0x36#8, 0x34#8], whole [0x37#8], whole [0x38#8, 0x34#8], whole [0x39#8], whole [0x3A#8],
      whole [0x3B#8], whole [0x3C#8], whole [0x3D#8], whole [0x3E#8, 0x34#8], whole [0x3F#8] ] =
    [some (.jrNcE8 0x34#8), some (.ldSpN16 0x1234#16), some .ldIndHlDecA, some .incSp, some .incIndHl,
      some .decIndHl, some (.ldIndHlN8 0x34#8), some .scf, some (.jrCE8 0x34#8), some .addHlSp, some .ldAIndHlDec,
      some .decSp, some .incA, some .decA, some (.ldAN8 0x34#8), some .ccf ] := by
  rfl

theorem test_decode_primary_row4 :
    [
      whole [0x40#8], whole [0x41#8], whole [0x42#8], whole [0x43#8], whole [0x44#8], whole [0x45#8], whole [0x46#8],
      whole [0x47#8], whole [0x48#8], whole [0x49#8], whole [0x4A#8], whole [0x4B#8], whole [0x4C#8], whole [0x4D#8],
      whole [0x4E#8], whole [0x4F#8] ] =
    [some .ldBB, some .ldBC, some .ldBD, some .ldBE, some .ldBH, some .ldBL, some .ldBIndHl, some .ldBA, some .ldCB,
      some .ldCC, some .ldCD, some .ldCE, some .ldCH, some .ldCL, some .ldCIndHl, some .ldCA ] := by
  rfl

theorem test_decode_primary_row5 :
    [
      whole [0x50#8], whole [0x51#8], whole [0x52#8], whole [0x53#8], whole [0x54#8], whole [0x55#8], whole [0x56#8],
      whole [0x57#8], whole [0x58#8], whole [0x59#8], whole [0x5A#8], whole [0x5B#8], whole [0x5C#8], whole [0x5D#8],
      whole [0x5E#8], whole [0x5F#8] ] =
    [some .ldDB, some .ldDC, some .ldDD, some .ldDE, some .ldDH, some .ldDL, some .ldDIndHl, some .ldDA, some .ldEB,
      some .ldEC, some .ldED, some .ldEE, some .ldEH, some .ldEL, some .ldEIndHl, some .ldEA ] := by
  rfl

theorem test_decode_primary_row6 :
    [
      whole [0x60#8], whole [0x61#8], whole [0x62#8], whole [0x63#8], whole [0x64#8], whole [0x65#8], whole [0x66#8],
      whole [0x67#8], whole [0x68#8], whole [0x69#8], whole [0x6A#8], whole [0x6B#8], whole [0x6C#8], whole [0x6D#8],
      whole [0x6E#8], whole [0x6F#8] ] =
    [some .ldHB, some .ldHC, some .ldHD, some .ldHE, some .ldHH, some .ldHL, some .ldHIndHl, some .ldHA, some .ldLB,
      some .ldLC, some .ldLD, some .ldLE, some .ldLH, some .ldLL, some .ldLIndHl, some .ldLA ] := by
  rfl

theorem test_decode_primary_row7 :
    [
      whole [0x70#8], whole [0x71#8], whole [0x72#8], whole [0x73#8], whole [0x74#8], whole [0x75#8], whole [0x76#8],
      whole [0x77#8], whole [0x78#8], whole [0x79#8], whole [0x7A#8], whole [0x7B#8], whole [0x7C#8], whole [0x7D#8],
      whole [0x7E#8], whole [0x7F#8] ] =
    [some .ldIndHlB, some .ldIndHlC, some .ldIndHlD, some .ldIndHlE, some .ldIndHlH, some .ldIndHlL, some .halt,
      some .ldIndHlA, some .ldAB, some .ldAC, some .ldAD, some .ldAE, some .ldAH, some .ldAL, some .ldAIndHl,
      some .ldAA ] := by
  rfl

theorem test_decode_primary_row8 :
    [
      whole [0x80#8], whole [0x81#8], whole [0x82#8], whole [0x83#8], whole [0x84#8], whole [0x85#8], whole [0x86#8],
      whole [0x87#8], whole [0x88#8], whole [0x89#8], whole [0x8A#8], whole [0x8B#8], whole [0x8C#8], whole [0x8D#8],
      whole [0x8E#8], whole [0x8F#8] ] =
    [some .addAB, some .addAC, some .addAD, some .addAE, some .addAH, some .addAL, some .addAIndHl, some .addAA,
      some .adcAB, some .adcAC, some .adcAD, some .adcAE, some .adcAH, some .adcAL, some .adcAIndHl, some .adcAA ] := by
  rfl

theorem test_decode_primary_row9 :
    [
      whole [0x90#8], whole [0x91#8], whole [0x92#8], whole [0x93#8], whole [0x94#8], whole [0x95#8], whole [0x96#8],
      whole [0x97#8], whole [0x98#8], whole [0x99#8], whole [0x9A#8], whole [0x9B#8], whole [0x9C#8], whole [0x9D#8],
      whole [0x9E#8], whole [0x9F#8] ] =
    [some .subB, some .subC, some .subD, some .subE, some .subH, some .subL, some .subIndHl, some .subA,
      some .sbcAB, some .sbcAC, some .sbcAD, some .sbcAE, some .sbcAH, some .sbcAL, some .sbcAIndHl, some .sbcAA ] := by
  rfl

theorem test_decode_primary_rowA :
    [
      whole [0xA0#8], whole [0xA1#8], whole [0xA2#8], whole [0xA3#8], whole [0xA4#8], whole [0xA5#8], whole [0xA6#8],
      whole [0xA7#8], whole [0xA8#8], whole [0xA9#8], whole [0xAA#8], whole [0xAB#8], whole [0xAC#8], whole [0xAD#8],
      whole [0xAE#8], whole [0xAF#8] ] =
    [some .andB, some .andC, some .andD, some .andE, some .andH, some .andL, some .andIndHl, some .andA, some .xorB,
      some .xorC, some .xorD, some .xorE, some .xorH, some .xorL, some .xorIndHl, some .xorA ] := by
  rfl

theorem test_decode_primary_rowB :
    [
      whole [0xB0#8], whole [0xB1#8], whole [0xB2#8], whole [0xB3#8], whole [0xB4#8], whole [0xB5#8], whole [0xB6#8],
      whole [0xB7#8], whole [0xB8#8], whole [0xB9#8], whole [0xBA#8], whole [0xBB#8], whole [0xBC#8], whole [0xBD#8],
      whole [0xBE#8], whole [0xBF#8] ] =
    [some .orB, some .orC, some .orD, some .orE, some .orH, some .orL, some .orIndHl, some .orA, some .cpB,
      some .cpC, some .cpD, some .cpE, some .cpH, some .cpL, some .cpIndHl, some .cpA ] := by
  rfl

theorem test_decode_primary_rowC :
    [
      whole [0xC0#8], whole [0xC1#8], whole [0xC2#8, 0x34#8, 0x12#8], whole [0xC3#8, 0x34#8, 0x12#8],
      whole [0xC4#8, 0x34#8, 0x12#8], whole [0xC5#8], whole [0xC6#8, 0x34#8], whole [0xC7#8], whole [0xC8#8],
      whole [0xC9#8], whole [0xCA#8, 0x34#8, 0x12#8], whole [0xCB#8], whole [0xCC#8, 0x34#8, 0x12#8],
      whole [0xCD#8, 0x34#8, 0x12#8], whole [0xCE#8, 0x34#8], whole [0xCF#8] ] =
    [some .retNz, some .popBc, some (.jpNzA16 0x1234#16), some (.jpA16 0x1234#16), some (.callNzA16 0x1234#16),
      some .pushBc, some (.addAN8 0x34#8), some .rst00, some .retZ, some .ret, some (.jpZA16 0x1234#16),
      some .prefixCb, some (.callZA16 0x1234#16), some (.callA16 0x1234#16), some (.adcAN8 0x34#8), some .rst08 ] := by
  rfl

theorem test_decode_primary_rowD :
    [
      whole [0xD0#8], whole [0xD1#8], whole [0xD2#8, 0x34#8, 0x12#8], whole [0xD3#8], whole [0xD4#8, 0x34#8, 0x12#8],
      whole [0xD5#8], whole [0xD6#8, 0x34#8], whole [0xD7#8], whole [0xD8#8], whole [0xD9#8],
      whole [0xDA#8, 0x34#8, 0x12#8], whole [0xDB#8], whole [0xDC#8, 0x34#8, 0x12#8], whole [0xDD#8],
      whole [0xDE#8, 0x34#8], whole [0xDF#8] ] =
    [some .retNc, some .popDe, some (.jpNcA16 0x1234#16), some .unrecognizedD3, some (.callNcA16 0x1234#16),
      some .pushDe, some (.subN8 0x34#8), some .rst10, some .retC, some .reti, some (.jpCA16 0x1234#16),
      some .unrecognizedDB, some (.callCA16 0x1234#16), some .unrecognizedDD, some (.sbcAN8 0x34#8), some .rst18 ] := by
  rfl

theorem test_decode_primary_rowE :
    [
      whole [0xE0#8, 0x34#8], whole [0xE1#8], whole [0xE2#8], whole [0xE3#8], whole [0xE4#8], whole [0xE5#8],
      whole [0xE6#8, 0x34#8], whole [0xE7#8], whole [0xE8#8, 0x34#8], whole [0xE9#8], whole [0xEA#8, 0x34#8, 0x12#8],
      whole [0xEB#8], whole [0xEC#8], whole [0xED#8], whole [0xEE#8, 0x34#8], whole [0xEF#8] ] =
    [some (.ldhIndA8A 0x34#8), some .popHl, some .ldIndCA, some .unrecognizedE3, some .unrecognizedE4, some .pushHl,
      some (.andN8 0x34#8), some .rst20, some (.addSpE8 0x34#8), some .jpHl, some (.ldIndA16A 0x1234#16),
      some .unrecognizedEB, some .unrecognizedEC, some .unrecognizedED, some (.xorN8 0x34#8), some .rst28 ] := by
  rfl

theorem test_decode_primary_rowF :
    [
      whole [0xF0#8, 0x34#8], whole [0xF1#8], whole [0xF2#8], whole [0xF3#8], whole [0xF4#8], whole [0xF5#8],
      whole [0xF6#8, 0x34#8], whole [0xF7#8], whole [0xF8#8, 0x34#8], whole [0xF9#8], whole [0xFA#8, 0x34#8, 0x12#8],
      whole [0xFB#8], whole [0xFC#8], whole [0xFD#8], whole [0xFE#8, 0x34#8], whole [0xFF#8] ] =
    [some (.ldhAIndA8 0x34#8), some .popAf, some .ldAIndC, some .di, some .unrecognizedF4, some .pushAf,
      some (.orN8 0x34#8), some .rst30, some (.ldHlSpE8 0x34#8), some .ldSpHl, some (.ldAIndA16 0x1234#16), some .ei,
      some .unrecognizedFC, some .unrecognizedFD, some (.cpN8 0x34#8), some .rst38 ] := by
  rfl

theorem test_decode_cb_row0 :
    [
      whole [0xCB#8, 0x00#8], whole [0xCB#8, 0x01#8], whole [0xCB#8, 0x02#8], whole [0xCB#8, 0x03#8],
      whole [0xCB#8, 0x04#8], whole [0xCB#8, 0x05#8], whole [0xCB#8, 0x06#8], whole [0xCB#8, 0x07#8],
      whole [0xCB#8, 0x08#8], whole [0xCB#8, 0x09#8], whole [0xCB#8, 0x0A#8], whole [0xCB#8, 0x0B#8],
      whole [0xCB#8, 0x0C#8], whole [0xCB#8, 0x0D#8], whole [0xCB#8, 0x0E#8], whole [0xCB#8, 0x0F#8] ] =
    [some .rlcB, some .rlcC, some .rlcD, some .rlcE, some .rlcH, some .rlcL, some .rlcIndHl, some .rlcA, some .rrcB,
      some .rrcC, some .rrcD, some .rrcE, some .rrcH, some .rrcL, some .rrcIndHl, some .rrcA ] := by
  rfl

theorem test_decode_cb_row1 :
    [
      whole [0xCB#8, 0x10#8], whole [0xCB#8, 0x11#8], whole [0xCB#8, 0x12#8], whole [0xCB#8, 0x13#8],
      whole [0xCB#8, 0x14#8], whole [0xCB#8, 0x15#8], whole [0xCB#8, 0x16#8], whole [0xCB#8, 0x17#8],
      whole [0xCB#8, 0x18#8], whole [0xCB#8, 0x19#8], whole [0xCB#8, 0x1A#8], whole [0xCB#8, 0x1B#8],
      whole [0xCB#8, 0x1C#8], whole [0xCB#8, 0x1D#8], whole [0xCB#8, 0x1E#8], whole [0xCB#8, 0x1F#8] ] =
    [some .rlB, some .rlC, some .rlD, some .rlE, some .rlH, some .rlL, some .rlIndHl, some .rlA, some .rrB,
      some .rrC, some .rrD, some .rrE, some .rrH, some .rrL, some .rrIndHl, some .rrA ] := by
  rfl

theorem test_decode_cb_row2 :
    [
      whole [0xCB#8, 0x20#8], whole [0xCB#8, 0x21#8], whole [0xCB#8, 0x22#8], whole [0xCB#8, 0x23#8],
      whole [0xCB#8, 0x24#8], whole [0xCB#8, 0x25#8], whole [0xCB#8, 0x26#8], whole [0xCB#8, 0x27#8],
      whole [0xCB#8, 0x28#8], whole [0xCB#8, 0x29#8], whole [0xCB#8, 0x2A#8], whole [0xCB#8, 0x2B#8],
      whole [0xCB#8, 0x2C#8], whole [0xCB#8, 0x2D#8], whole [0xCB#8, 0x2E#8], whole [0xCB#8, 0x2F#8] ] =
    [some .slaB, some .slaC, some .slaD, some .slaE, some .slaH, some .slaL, some .slaIndHl, some .slaA, some .sraB,
      some .sraC, some .sraD, some .sraE, some .sraH, some .sraL, some .sraIndHl, some .sraA ] := by
  rfl

theorem test_decode_cb_row3 :
    [
      whole [0xCB#8, 0x30#8], whole [0xCB#8, 0x31#8], whole [0xCB#8, 0x32#8], whole [0xCB#8, 0x33#8],
      whole [0xCB#8, 0x34#8], whole [0xCB#8, 0x35#8], whole [0xCB#8, 0x36#8], whole [0xCB#8, 0x37#8],
      whole [0xCB#8, 0x38#8], whole [0xCB#8, 0x39#8], whole [0xCB#8, 0x3A#8], whole [0xCB#8, 0x3B#8],
      whole [0xCB#8, 0x3C#8], whole [0xCB#8, 0x3D#8], whole [0xCB#8, 0x3E#8], whole [0xCB#8, 0x3F#8] ] =
    [some .swapB, some .swapC, some .swapD, some .swapE, some .swapH, some .swapL, some .swapIndHl, some .swapA,
      some .srlB, some .srlC, some .srlD, some .srlE, some .srlH, some .srlL, some .srlIndHl, some .srlA ] := by
  rfl

theorem test_decode_cb_row4 :
    [
      whole [0xCB#8, 0x40#8], whole [0xCB#8, 0x41#8], whole [0xCB#8, 0x42#8], whole [0xCB#8, 0x43#8],
      whole [0xCB#8, 0x44#8], whole [0xCB#8, 0x45#8], whole [0xCB#8, 0x46#8], whole [0xCB#8, 0x47#8],
      whole [0xCB#8, 0x48#8], whole [0xCB#8, 0x49#8], whole [0xCB#8, 0x4A#8], whole [0xCB#8, 0x4B#8],
      whole [0xCB#8, 0x4C#8], whole [0xCB#8, 0x4D#8], whole [0xCB#8, 0x4E#8], whole [0xCB#8, 0x4F#8] ] =
    [some .bit0B, some .bit0C, some .bit0D, some .bit0E, some .bit0H, some .bit0L, some .bit0IndHl, some .bit0A,
      some .bit1B, some .bit1C, some .bit1D, some .bit1E, some .bit1H, some .bit1L, some .bit1IndHl, some .bit1A ] := by
  rfl

theorem test_decode_cb_row5 :
    [
      whole [0xCB#8, 0x50#8], whole [0xCB#8, 0x51#8], whole [0xCB#8, 0x52#8], whole [0xCB#8, 0x53#8],
      whole [0xCB#8, 0x54#8], whole [0xCB#8, 0x55#8], whole [0xCB#8, 0x56#8], whole [0xCB#8, 0x57#8],
      whole [0xCB#8, 0x58#8], whole [0xCB#8, 0x59#8], whole [0xCB#8, 0x5A#8], whole [0xCB#8, 0x5B#8],
      whole [0xCB#8, 0x5C#8], whole [0xCB#8, 0x5D#8], whole [0xCB#8, 0x5E#8], whole [0xCB#8, 0x5F#8] ] =
    [some .bit2B, some .bit2C, some .bit2D, some .bit2E, some .bit2H, some .bit2L, some .bit2IndHl, some .bit2A,
      some .bit3B, some .bit3C, some .bit3D, some .bit3E, some .bit3H, some .bit3L, some .bit3IndHl, some .bit3A ] := by
  rfl

theorem test_decode_cb_row6 :
    [
      whole [0xCB#8, 0x60#8], whole [0xCB#8, 0x61#8], whole [0xCB#8, 0x62#8], whole [0xCB#8, 0x63#8],
      whole [0xCB#8, 0x64#8], whole [0xCB#8, 0x65#8], whole [0xCB#8, 0x66#8], whole [0xCB#8, 0x67#8],
      whole [0xCB#8, 0x68#8], whole [0xCB#8, 0x69#8], whole [0xCB#8, 0x6A#8], whole [0xCB#8, 0x6B#8],
      whole [0xCB#8, 0x6C#8], whole [0xCB#8, 0x6D#8], whole [0xCB#8, 0x6E#8], whole [0xCB#8, 0x6F#8] ] =
    [some .bit4B, some .bit4C, some .bit4D, some .bit4E, some .bit4H, some .bit4L, some .bit4IndHl, some .bit4A,
      some .bit5B, some .bit5C, some .bit5D, some .bit5E, some .bit5H, some .bit5L, some .bit5IndHl, some .bit5A ] := by
  rfl

theorem test_decode_cb_row7 :
    [
      whole [0xCB#8, 0x70#8], whole [0xCB#8, 0x71#8], whole [0xCB#8, 0x72#8], whole [0xCB#8, 0x73#8],
      whole [0xCB#8, 0x74#8], whole [0xCB#8, 0x75#8], whole [0xCB#8, 0x76#8], whole [0xCB#8, 0x77#8],
      whole [0xCB#8, 0x78#8], whole [0xCB#8, 0x79#8], whole [0xCB#8, 0x7A#8], whole [0xCB#8, 0x7B#8],
      whole [0xCB#8, 0x7C#8], whole [0xCB#8, 0x7D#8], whole [0xCB#8, 0x7E#8], whole [0xCB#8, 0x7F#8] ] =
    [some .bit6B, some .bit6C, some .bit6D, some .bit6E, some .bit6H, some .bit6L, some .bit6IndHl, some .bit6A,
      some .bit7B, some .bit7C, some .bit7D, some .bit7E, some .bit7H, some .bit7L, some .bit7IndHl, some .bit7A ] := by
  rfl

theorem test_decode_cb_row8 :
    [
      whole [0xCB#8, 0x80#8], whole [0xCB#8, 0x81#8], whole [0xCB#8, 0x82#8], whole [0xCB#8, 0x83#8],
      whole [0xCB#8, 0x84#8], whole [0xCB#8, 0x85#8], whole [0xCB#8, 0x86#8], whole [0xCB#8, 0x87#8],
      whole [0xCB#8, 0x88#8], whole [0xCB#8, 0x89#8], whole [0xCB#8, 0x8A#8], whole [0xCB#8, 0x8B#8],
      whole [0xCB#8, 0x8C#8], whole [0xCB#8, 0x8D#8], whole [0xCB#8, 0x8E#8], whole [0xCB#8, 0x8F#8] ] =
    [some .res0B, some .res0C, some .res0D, some .res0E, some .res0H, some .res0L, some .res0IndHl, some .res0A,
      some .res1B, some .res1C, some .res1D, some .res1E, some .res1H, some .res1L, some .res1IndHl, some .res1A ] := by
  rfl

theorem test_decode_cb_row9 :
    [
      whole [0xCB#8, 0x90#8], whole [0xCB#8, 0x91#8], whole [0xCB#8, 0x92#8], whole [0xCB#8, 0x93#8],
      whole [0xCB#8, 0x94#8], whole [0xCB#8, 0x95#8], whole [0xCB#8, 0x96#8], whole [0xCB#8, 0x97#8],
      whole [0xCB#8, 0x98#8], whole [0xCB#8, 0x99#8], whole [0xCB#8, 0x9A#8], whole [0xCB#8, 0x9B#8],
      whole [0xCB#8, 0x9C#8], whole [0xCB#8, 0x9D#8], whole [0xCB#8, 0x9E#8], whole [0xCB#8, 0x9F#8] ] =
    [some .res2B, some .res2C, some .res2D, some .res2E, some .res2H, some .res2L, some .res2IndHl, some .res2A,
      some .res3B, some .res3C, some .res3D, some .res3E, some .res3H, some .res3L, some .res3IndHl, some .res3A ] := by
  rfl

theorem test_decode_cb_rowA :
    [
      whole [0xCB#8, 0xA0#8], whole [0xCB#8, 0xA1#8], whole [0xCB#8, 0xA2#8], whole [0xCB#8, 0xA3#8],
      whole [0xCB#8, 0xA4#8], whole [0xCB#8, 0xA5#8], whole [0xCB#8, 0xA6#8], whole [0xCB#8, 0xA7#8],
      whole [0xCB#8, 0xA8#8], whole [0xCB#8, 0xA9#8], whole [0xCB#8, 0xAA#8], whole [0xCB#8, 0xAB#8],
      whole [0xCB#8, 0xAC#8], whole [0xCB#8, 0xAD#8], whole [0xCB#8, 0xAE#8], whole [0xCB#8, 0xAF#8] ] =
    [some .res4B, some .res4C, some .res4D, some .res4E, some .res4H, some .res4L, some .res4IndHl, some .res4A,
      some .res5B, some .res5C, some .res5D, some .res5E, some .res5H, some .res5L, some .res5IndHl, some .res5A ] := by
  rfl

theorem test_decode_cb_rowB :
    [
      whole [0xCB#8, 0xB0#8], whole [0xCB#8, 0xB1#8], whole [0xCB#8, 0xB2#8], whole [0xCB#8, 0xB3#8],
      whole [0xCB#8, 0xB4#8], whole [0xCB#8, 0xB5#8], whole [0xCB#8, 0xB6#8], whole [0xCB#8, 0xB7#8],
      whole [0xCB#8, 0xB8#8], whole [0xCB#8, 0xB9#8], whole [0xCB#8, 0xBA#8], whole [0xCB#8, 0xBB#8],
      whole [0xCB#8, 0xBC#8], whole [0xCB#8, 0xBD#8], whole [0xCB#8, 0xBE#8], whole [0xCB#8, 0xBF#8] ] =
    [some .res6B, some .res6C, some .res6D, some .res6E, some .res6H, some .res6L, some .res6IndHl, some .res6A,
      some .res7B, some .res7C, some .res7D, some .res7E, some .res7H, some .res7L, some .res7IndHl, some .res7A ] := by
  rfl

theorem test_decode_cb_rowC :
    [
      whole [0xCB#8, 0xC0#8], whole [0xCB#8, 0xC1#8], whole [0xCB#8, 0xC2#8], whole [0xCB#8, 0xC3#8],
      whole [0xCB#8, 0xC4#8], whole [0xCB#8, 0xC5#8], whole [0xCB#8, 0xC6#8], whole [0xCB#8, 0xC7#8],
      whole [0xCB#8, 0xC8#8], whole [0xCB#8, 0xC9#8], whole [0xCB#8, 0xCA#8], whole [0xCB#8, 0xCB#8],
      whole [0xCB#8, 0xCC#8], whole [0xCB#8, 0xCD#8], whole [0xCB#8, 0xCE#8], whole [0xCB#8, 0xCF#8] ] =
    [some .set0B, some .set0C, some .set0D, some .set0E, some .set0H, some .set0L, some .set0IndHl, some .set0A,
      some .set1B, some .set1C, some .set1D, some .set1E, some .set1H, some .set1L, some .set1IndHl, some .set1A ] := by
  rfl

theorem test_decode_cb_rowD :
    [
      whole [0xCB#8, 0xD0#8], whole [0xCB#8, 0xD1#8], whole [0xCB#8, 0xD2#8], whole [0xCB#8, 0xD3#8],
      whole [0xCB#8, 0xD4#8], whole [0xCB#8, 0xD5#8], whole [0xCB#8, 0xD6#8], whole [0xCB#8, 0xD7#8],
      whole [0xCB#8, 0xD8#8], whole [0xCB#8, 0xD9#8], whole [0xCB#8, 0xDA#8], whole [0xCB#8, 0xDB#8],
      whole [0xCB#8, 0xDC#8], whole [0xCB#8, 0xDD#8], whole [0xCB#8, 0xDE#8], whole [0xCB#8, 0xDF#8] ] =
    [some .set2B, some .set2C, some .set2D, some .set2E, some .set2H, some .set2L, some .set2IndHl, some .set2A,
      some .set3B, some .set3C, some .set3D, some .set3E, some .set3H, some .set3L, some .set3IndHl, some .set3A ] := by
  rfl

theorem test_decode_cb_rowE :
    [
      whole [0xCB#8, 0xE0#8], whole [0xCB#8, 0xE1#8], whole [0xCB#8, 0xE2#8], whole [0xCB#8, 0xE3#8],
      whole [0xCB#8, 0xE4#8], whole [0xCB#8, 0xE5#8], whole [0xCB#8, 0xE6#8], whole [0xCB#8, 0xE7#8],
      whole [0xCB#8, 0xE8#8], whole [0xCB#8, 0xE9#8], whole [0xCB#8, 0xEA#8], whole [0xCB#8, 0xEB#8],
      whole [0xCB#8, 0xEC#8], whole [0xCB#8, 0xED#8], whole [0xCB#8, 0xEE#8], whole [0xCB#8, 0xEF#8] ] =
    [some .set4B, some .set4C, some .set4D, some .set4E, some .set4H, some .set4L, some .set4IndHl, some .set4A,
      some .set5B, some .set5C, some .set5D, some .set5E, some .set5H, some .set5L, some .set5IndHl, some .set5A ] := by
  rfl

theorem test_decode_cb_rowF :
    [
      whole [0xCB#8, 0xF0#8], whole [0xCB#8, 0xF1#8], whole [0xCB#8, 0xF2#8], whole [0xCB#8, 0xF3#8],
      whole [0xCB#8, 0xF4#8], whole [0xCB#8, 0xF5#8], whole [0xCB#8, 0xF6#8], whole [0xCB#8, 0xF7#8],
      whole [0xCB#8, 0xF8#8], whole [0xCB#8, 0xF9#8], whole [0xCB#8, 0xFA#8], whole [0xCB#8, 0xFB#8],
      whole [0xCB#8, 0xFC#8], whole [0xCB#8, 0xFD#8], whole [0xCB#8, 0xFE#8], whole [0xCB#8, 0xFF#8] ] =
    [some .set6B, some .set6C, some .set6D, some .set6E, some .set6H, some .set6L, some .set6IndHl, some .set6A,
      some .set7B, some .set7C, some .set7D, some .set7E, some .set7H, some .set7L, some .set7IndHl, some .set7A ] := by
  rfl

theorem test_decode_refuses_short : decode [0x01#8, 0x34#8] = .error (.immediateMissing 0x01#8) := by rfl

theorem test_table_word_cb : decodeTableWord 16 0xCB7F = some .bit7A := by rfl

theorem test_table_word_op : decodeTableWord 8 0xFA = some (.ldAIndA16 0x0000#16) := by rfl

/-! ## Steps: the vectors of 95_test_vectors Part 2, from its shared premises -/

/-- The blank session of the shared premises. -/
def blank : Params := Params.default

/-- The "code 2" session: 0x20000 bytes, header byte 0x02. -/
def code2 : Params := withBankMask { Params.default with cart := { len := 0x20000, bytes := [(0x0148, 0x02#8)] } }

def blankWithStop (m : StopMode) : Params := { Params.default with stopMode := m }

/-- The instruction bytes in the cartridge from `at0` up. -/
def putBytes (i : Image) (at0 : Nat) : List Byte → Image
  | [] => i
  | b :: bs => putBytes { i with bytes := Memory.write i.bytes at0 b } (at0 + 1) bs

def putMemory (s : State) : List (Word × Byte) → State
  | [] => s
  | (a, v) :: rest => putMemory (writeByte s a v) rest

/-- The state a vector starts from: the bytes under test at PC, the memory it sets, its registers. -/
def given (p : Params) (bs : List Byte) (mem : List (Word × Byte)) (cpu : Cpu) : State :=
  putMemory
    { cpu := cpu
      mmu := State.reset.mmu
      params := { p with cart := putBytes p.cart (cpu.pc.toNat % 0x4000) bs } }
    mem

/-- The step of a vector: registers, flags, PC, `ime` and `halted` after it, what it wrote where that can be read, `bank`, and the cost. -/
def goes (p : Params) (bs : List Byte) (mem : List (Word × Byte)) (before after : Cpu) (reads : List (Word × Byte))
    (bank : Byte) (cost : Nat) : Bool :=
  match step (given p bs mem before) with
  | .next t =>
    decide (t.cpu = after) && reads.all (fun r => decide (readByte t r.1 = r.2)) && decide (t.mmu.bank = bank) &&
      decide (stepCost (given p bs mem before) = some cost)
  | .fault _ => false
  | .refused _ => false

/-- VL1: LD B,C. -/
theorem test_vl1 :
    goes blank [0x41#8] []
      Cpu.postBoot
      { Cpu.postBoot with b := 0x13#8, pc := 0x0101#16 }
      [] 0x01#8 1 = true := by
  rfl

/-- VL3: LD D,n8. -/
theorem test_vl3 :
    goes blank [0x16#8, 0x9C#8] []
      Cpu.postBoot
      { Cpu.postBoot with d := 0x9C#8, pc := 0x0102#16 }
      [] 0x01#8 2 = true := by
  rfl

/-- VL4: LD E,(HL). -/
theorem test_vl4 :
    goes blank [0x5E#8] [(0xC010#16, 0x77#8)]
      { Cpu.postBoot with h := 0xC0#8, l := 0x10#8 }
      { Cpu.postBoot with h := 0xC0#8, l := 0x10#8, e := 0x77#8, pc := 0x0101#16 }
      [] 0x01#8 2 = true := by
  rfl

/-- VL5: LD (HL),H. -/
theorem test_vl5 :
    goes blank [0x74#8] []
      { Cpu.postBoot with h := 0xC2#8, l := 0x34#8 }
      { Cpu.postBoot with h := 0xC2#8, l := 0x34#8, pc := 0x0101#16 }
      [(0xC234#16, 0xC2#8)] 0x01#8 2 = true := by
  rfl

/-- VL6: LD (HL),L into ROM0 (code 2). -/
theorem test_vl6 :
    goes code2 [0x75#8] []
      { Cpu.postBoot with h := 0x20#8, l := 0x03#8 }
      { Cpu.postBoot with h := 0x20#8, l := 0x03#8, pc := 0x0101#16 }
      [] 0x03#8 2 = true := by
  rfl

/-- VL7: LD (HL),n8. -/
theorem test_vl7 :
    goes blank [0x36#8, 0x42#8] []
      { Cpu.postBoot with h := 0xFF#8, l := 0x90#8 }
      { Cpu.postBoot with h := 0xFF#8, l := 0x90#8, pc := 0x0102#16 }
      [(0xFF90#16, 0x42#8)] 0x01#8 3 = true := by
  rfl

/-- VL8: LD A,(BC). -/
theorem test_vl8 :
    goes blank [0x0A#8] [(0xC001#16, 0xAB#8)]
      { Cpu.postBoot with b := 0xC0#8, c := 0x01#8 }
      { Cpu.postBoot with b := 0xC0#8, c := 0x01#8, a := 0xAB#8, pc := 0x0101#16 }
      [] 0x01#8 2 = true := by
  rfl

/-- VL9: LD A,(DE). -/
theorem test_vl9 :
    goes blank [0x1A#8] []
      { Cpu.postBoot with d := 0x80#8, e := 0x00#8 }
      { Cpu.postBoot with d := 0x80#8, e := 0x00#8, a := 0xFF#8, pc := 0x0101#16 }
      [] 0x01#8 2 = true := by
  rfl

/-- VL10: LD (BC),A. -/
theorem test_vl10 :
    goes blank [0x02#8] []
      { Cpu.postBoot with b := 0xE0#8, c := 0x05#8, a := 0x3C#8 }
      { Cpu.postBoot with b := 0xE0#8, c := 0x05#8, a := 0x3C#8, pc := 0x0101#16 }
      [(0xE005#16, 0x3C#8)] 0x01#8 2 = true := by
  rfl

/-- VL11: LD (DE),A. -/
theorem test_vl11 :
    goes blank [0x12#8] []
      { Cpu.postBoot with d := 0x90#8, e := 0x00#8, a := 0x3C#8 }
      { Cpu.postBoot with d := 0x90#8, e := 0x00#8, a := 0x3C#8, pc := 0x0101#16 }
      [(0x9000#16, 0xFF#8)] 0x01#8 2 = true := by
  rfl

/-- VL13: LD A,(HL+) wrap. -/
theorem test_vl13 :
    goes blank [0x2A#8] [(0xFFFF#16, 0x1F#8)]
      { Cpu.postBoot with h := 0xFF#8, l := 0xFF#8 }
      { Cpu.postBoot with h := 0x00#8, l := 0x00#8, a := 0x1F#8, pc := 0x0101#16 }
      [] 0x01#8 2 = true := by
  rfl

/-- VL14: LD A,(HL-). -/
theorem test_vl14 :
    goes blank [0x3A#8] [(0xC000#16, 0x22#8)]
      { Cpu.postBoot with h := 0xC0#8, l := 0x00#8 }
      { Cpu.postBoot with h := 0xBF#8, l := 0xFF#8, a := 0x22#8, pc := 0x0101#16 }
      [] 0x01#8 2 = true := by
  rfl

/-- VL15: LD (HL+),A. -/
theorem test_vl15 :
    goes blank [0x22#8] []
      { Cpu.postBoot with h := 0xC1#8, l := 0x00#8, a := 0x99#8 }
      { Cpu.postBoot with h := 0xC1#8, l := 0x01#8, a := 0x99#8, pc := 0x0101#16 }
      [(0xC100#16, 0x99#8)] 0x01#8 2 = true := by
  rfl

/-- VL16: LD (HL-),A wrap (code 2). -/
theorem test_vl16 :
    goes code2 [0x32#8] []
      { Cpu.postBoot with h := 0x00#8, l := 0x00#8, a := 0x02#8 }
      { Cpu.postBoot with h := 0xFF#8, l := 0xFF#8, a := 0x02#8, pc := 0x0101#16 }
      [] 0x02#8 2 = true := by
  rfl

/-- VL17: LD A,(a16). -/
theorem test_vl17 :
    goes blank [0xFA#8, 0x00#8, 0xC0#8] [(0xC000#16, 0x5A#8)]
      Cpu.postBoot
      { Cpu.postBoot with a := 0x5A#8, pc := 0x0103#16 }
      [] 0x01#8 4 = true := by
  rfl

/-- VL18: LD (a16),A. -/
theorem test_vl18 :
    goes blank [0xEA#8, 0x80#8, 0xFF#8] []
      { Cpu.postBoot with a := 0x66#8 }
      { Cpu.postBoot with a := 0x66#8, pc := 0x0103#16 }
      [(0xFF80#16, 0x66#8)] 0x01#8 4 = true := by
  rfl

/-- VL19: LDH A,(a8). -/
theorem test_vl19 :
    goes blank [0xF0#8, 0x44#8] [(0xFF44#16, 0x90#8)]
      Cpu.postBoot
      { Cpu.postBoot with a := 0x90#8, pc := 0x0102#16 }
      [] 0x01#8 3 = true := by
  rfl

/-- VL20: LDH (a8),A. -/
theorem test_vl20 :
    goes blank [0xE0#8, 0x80#8] []
      { Cpu.postBoot with a := 0x12#8 }
      { Cpu.postBoot with a := 0x12#8, pc := 0x0102#16 }
      [(0xFF80#16, 0x12#8)] 0x01#8 3 = true := by
  rfl

/-- VL22: LD A,(C). -/
theorem test_vl22 :
    goes blank [0xF2#8] []
      { Cpu.postBoot with c := 0x50#8 }
      { Cpu.postBoot with c := 0x50#8, a := 0xFF#8, pc := 0x0101#16 }
      [] 0x01#8 2 = true := by
  rfl

/-- VL23: LD (C),A. -/
theorem test_vl23 :
    goes blank [0xE2#8] []
      { Cpu.postBoot with c := 0x0F#8, a := 0xE1#8 }
      { Cpu.postBoot with c := 0x0F#8, a := 0xE1#8, pc := 0x0101#16 }
      [(0xFF0F#16, 0xE1#8)] 0x01#8 2 = true := by
  rfl

/-- VL24: LD BC,n16. -/
theorem test_vl24 :
    goes blank [0x01#8, 0x34#8, 0x12#8] []
      Cpu.postBoot
      { Cpu.postBoot with b := 0x12#8, c := 0x34#8, pc := 0x0103#16 }
      [] 0x01#8 3 = true := by
  rfl

/-- VL25: LD SP,n16. -/
theorem test_vl25 :
    goes blank [0x31#8, 0xFE#8, 0xDF#8] []
      Cpu.postBoot
      { Cpu.postBoot with sp := 0xDFFE#16, pc := 0x0103#16 }
      [] 0x01#8 3 = true := by
  rfl

/-- VL26: LD (a16),SP. -/
theorem test_vl26 :
    goes blank [0x08#8, 0x00#8, 0xC0#8] []
      { Cpu.postBoot with sp := 0xFFF8#16 }
      { Cpu.postBoot with sp := 0xFFF8#16, pc := 0x0103#16 }
      [(0xC000#16, 0xF8#8), (0xC001#16, 0xFF#8)] 0x01#8 5 = true := by
  rfl

/-- VL27: LD (a16),SP at FFFF. -/
theorem test_vl27 :
    goes blank [0x08#8, 0xFF#8, 0xFF#8] []
      { Cpu.postBoot with sp := 0x1234#16 }
      { Cpu.postBoot with sp := 0x1234#16, pc := 0x0103#16 }
      [(0xFFFF#16, 0x34#8)] 0x01#8 5 = true := by
  rfl

/-- VL28: LD SP,HL. -/
theorem test_vl28 :
    goes blank [0xF9#8] []
      { Cpu.postBoot with h := 0xC0#8, l := 0xDE#8 }
      { Cpu.postBoot with h := 0xC0#8, l := 0xDE#8, sp := 0xC0DE#16, pc := 0x0101#16 }
      [] 0x01#8 2 = true := by
  rfl

/-- VL30: PUSH AF. -/
theorem test_vl30 :
    goes blank [0xF5#8] []
      Cpu.postBoot
      { Cpu.postBoot with sp := 0xFFFC#16, pc := 0x0101#16 }
      [(0xFFFC#16, 0xB0#8), (0xFFFD#16, 0x01#8)] 0x01#8 4 = true := by
  rfl

/-- VL31: PUSH DE at SP=0000. -/
theorem test_vl31 :
    goes blank [0xD5#8] []
      { Cpu.postBoot with sp := 0x0000#16, d := 0xAB#8, e := 0xCD#8 }
      { Cpu.postBoot with sp := 0xFFFE#16, d := 0xAB#8, e := 0xCD#8, pc := 0x0101#16 }
      [(0xFFFE#16, 0xCD#8), (0xFFFF#16, 0xAB#8)] 0x01#8 4 = true := by
  rfl

/-- VL32: POP HL. -/
theorem test_vl32 :
    goes blank [0xE1#8] [(0xFFFC#16, 0x34#8), (0xFFFD#16, 0x12#8)]
      { Cpu.postBoot with sp := 0xFFFC#16 }
      { Cpu.postBoot with sp := 0xFFFE#16, h := 0x12#8, l := 0x34#8, pc := 0x0101#16 }
      [] 0x01#8 3 = true := by
  rfl

/-- VL33: POP AF masks F. -/
theorem test_vl33 :
    goes blank [0xF1#8] [(0xC000#16, 0xFF#8), (0xC001#16, 0x12#8)]
      { Cpu.postBoot with sp := 0xC000#16 }
      { Cpu.postBoot with sp := 0xC002#16, a := 0x12#8, f := 0xF0#8, pc := 0x0101#16 }
      [] 0x01#8 3 = true := by
  rfl

/-- VL35: POP DE at SP=FFFF. -/
theorem test_vl35 :
    goes blank [0xD1#8] [(0xFFFF#16, 0x77#8)]
      { Cpu.postBoot with sp := 0xFFFF#16 }
      { Cpu.postBoot with sp := 0x0001#16, e := 0x77#8, pc := 0x0101#16 }
      [] 0x01#8 3 = true := by
  rfl

/-- VA2: ADD A,B. -/
theorem test_va2 :
    goes blank [0x80#8] []
      { Cpu.postBoot with a := 0x0F#8, b := 0x01#8 }
      { Cpu.postBoot with a := 0x10#8, b := 0x01#8, f := 0x20#8, pc := 0x0101#16 }
      [] 0x01#8 1 = true := by
  rfl

/-- VA4: ADD A,n8. -/
theorem test_va4 :
    goes blank [0xC6#8, 0xFF#8] []
      { Cpu.postBoot with a := 0x01#8 }
      { Cpu.postBoot with a := 0x00#8, pc := 0x0102#16 }
      [] 0x01#8 2 = true := by
  rfl

/-- VA5: ADC A,C. -/
theorem test_va5 :
    goes blank [0x89#8] []
      { Cpu.postBoot with a := 0x0E#8, c := 0x01#8, f := 0x10#8 }
      { Cpu.postBoot with a := 0x10#8, c := 0x01#8, f := 0x20#8, pc := 0x0101#16 }
      [] 0x01#8 1 = true := by
  rfl

/-- VA7: ADC A,(HL). -/
theorem test_va7 :
    goes blank [0x8E#8] [(0xC000#16, 0x1E#8)]
      { Cpu.postBoot with a := 0xE1#8, h := 0xC0#8, l := 0x00#8, f := 0x10#8 }
      { Cpu.postBoot with a := 0x00#8, h := 0xC0#8, l := 0x00#8, f := 0xB0#8, pc := 0x0101#16 }
      [] 0x01#8 2 = true := by
  rfl

/-- VA9: SUB n8. -/
theorem test_va9 :
    goes blank [0xD6#8, 0x0F#8] []
      { Cpu.postBoot with a := 0x3E#8 }
      { Cpu.postBoot with a := 0x2F#8, f := 0x60#8, pc := 0x0102#16 }
      [] 0x01#8 2 = true := by
  rfl

/-- VA12: SBC A,H. -/
theorem test_va12 :
    goes blank [0x9C#8] []
      { Cpu.postBoot with a := 0x3B#8, h := 0x2A#8, f := 0x10#8 }
      { Cpu.postBoot with a := 0x10#8, h := 0x2A#8, f := 0x40#8, pc := 0x0101#16 }
      [] 0x01#8 1 = true := by
  rfl

/-- VA15: SBC A,A. -/
theorem test_va15 :
    goes blank [0x9F#8] []
      { Cpu.postBoot with a := 0x00#8, f := 0x10#8 }
      { Cpu.postBoot with a := 0xFF#8, f := 0x70#8, pc := 0x0101#16 }
      [] 0x01#8 1 = true := by
  rfl

/-- VA16: AND n8. -/
theorem test_va16 :
    goes blank [0xE6#8, 0x38#8] []
      { Cpu.postBoot with a := 0x5A#8 }
      { Cpu.postBoot with a := 0x18#8, f := 0x20#8, pc := 0x0102#16 }
      [] 0x01#8 2 = true := by
  rfl

/-- VA19: XOR n8. -/
theorem test_va19 :
    goes blank [0xEE#8, 0x0F#8] []
      { Cpu.postBoot with a := 0xFF#8 }
      { Cpu.postBoot with a := 0xF0#8, f := 0x00#8, pc := 0x0102#16 }
      [] 0x01#8 2 = true := by
  rfl

/-- VA21: OR (HL). -/
theorem test_va21 :
    goes blank [0xB6#8] [(0xC000#16, 0x0F#8)]
      { Cpu.postBoot with a := 0x5A#8, h := 0xC0#8, l := 0x00#8 }
      { Cpu.postBoot with a := 0x5F#8, h := 0xC0#8, l := 0x00#8, f := 0x00#8, pc := 0x0101#16 }
      [] 0x01#8 2 = true := by
  rfl

/-- VA23: CP B. -/
theorem test_va23 :
    goes blank [0xB8#8] []
      { Cpu.postBoot with a := 0x3C#8, b := 0x2F#8 }
      { Cpu.postBoot with a := 0x3C#8, b := 0x2F#8, f := 0x60#8, pc := 0x0101#16 }
      [] 0x01#8 1 = true := by
  rfl

/-- VA26: INC B. -/
theorem test_va26 :
    goes blank [0x04#8] []
      { Cpu.postBoot with b := 0x0F#8, f := 0x10#8 }
      { Cpu.postBoot with b := 0x10#8, f := 0x30#8, pc := 0x0101#16 }
      [] 0x01#8 1 = true := by
  rfl

/-- VA27: INC (HL). -/
theorem test_va27 :
    goes blank [0x34#8] [(0xC000#16, 0x50#8)]
      { Cpu.postBoot with h := 0xC0#8, l := 0x00#8 }
      { Cpu.postBoot with h := 0xC0#8, l := 0x00#8, f := 0x10#8, pc := 0x0101#16 }
      [(0xC000#16, 0x51#8)] 0x01#8 3 = true := by
  rfl

/-- VA28: INC (HL) in ROMX. -/
theorem test_va28 :
    goes blank [0x34#8] []
      { Cpu.postBoot with h := 0x40#8, l := 0x00#8 }
      { Cpu.postBoot with h := 0x40#8, l := 0x00#8, f := 0x10#8, pc := 0x0101#16 }
      [(0x4000#16, 0x00#8)] 0x01#8 3 = true := by
  rfl

/-- VA30: DEC L. -/
theorem test_va30 :
    goes blank [0x2D#8] []
      { Cpu.postBoot with l := 0x00#8, f := 0x00#8 }
      { Cpu.postBoot with l := 0xFF#8, f := 0x60#8, pc := 0x0101#16 }
      [] 0x01#8 1 = true := by
  rfl

/-- VA31: DEC (HL). -/
theorem test_va31 :
    goes blank [0x35#8] [(0xFF80#16, 0x01#8)]
      { Cpu.postBoot with h := 0xFF#8, l := 0x80#8 }
      { Cpu.postBoot with h := 0xFF#8, l := 0x80#8, f := 0xD0#8, pc := 0x0101#16 }
      [(0xFF80#16, 0x00#8)] 0x01#8 3 = true := by
  rfl

/-- VA32: DAA after add. -/
theorem test_va32 :
    goes blank [0x27#8] []
      { Cpu.postBoot with a := 0x9A#8, f := 0x00#8 }
      { Cpu.postBoot with a := 0x00#8, f := 0x90#8, pc := 0x0101#16 }
      [] 0x01#8 1 = true := by
  rfl

/-- VA36: DAA after sub, C H. -/
theorem test_va36 :
    goes blank [0x27#8] []
      { Cpu.postBoot with a := 0xA7#8, f := 0x70#8 }
      { Cpu.postBoot with a := 0x41#8, f := 0x50#8, pc := 0x0101#16 }
      [] 0x01#8 1 = true := by
  rfl

/-- VA38: CPL. -/
theorem test_va38 :
    goes blank [0x2F#8] []
      { Cpu.postBoot with a := 0x35#8, f := 0x00#8 }
      { Cpu.postBoot with a := 0xCA#8, f := 0x60#8, pc := 0x0101#16 }
      [] 0x01#8 1 = true := by
  rfl

/-- VA39: SCF. -/
theorem test_va39 :
    goes blank [0x37#8] []
      { Cpu.postBoot with f := 0xE0#8 }
      { Cpu.postBoot with f := 0x90#8, pc := 0x0101#16 }
      [] 0x01#8 1 = true := by
  rfl

/-- VA40: CCF. -/
theorem test_va40 :
    goes blank [0x3F#8] []
      { Cpu.postBoot with f := 0xB0#8 }
      { Cpu.postBoot with f := 0x80#8, pc := 0x0101#16 }
      [] 0x01#8 1 = true := by
  rfl

/-- VA43: RLCA zero. -/
theorem test_va43 :
    goes blank [0x07#8] []
      { Cpu.postBoot with a := 0x00#8, f := 0x80#8 }
      { Cpu.postBoot with a := 0x00#8, f := 0x00#8, pc := 0x0101#16 }
      [] 0x01#8 1 = true := by
  rfl

/-- VA44: RRCA. -/
theorem test_va44 :
    goes blank [0x0F#8] []
      { Cpu.postBoot with a := 0x01#8, f := 0x00#8 }
      { Cpu.postBoot with a := 0x80#8, f := 0x10#8, pc := 0x0101#16 }
      [] 0x01#8 1 = true := by
  rfl

/-- VA45: RLA. -/
theorem test_va45 :
    goes blank [0x17#8] []
      { Cpu.postBoot with a := 0x95#8, f := 0x10#8 }
      { Cpu.postBoot with a := 0x2B#8, f := 0x10#8, pc := 0x0101#16 }
      [] 0x01#8 1 = true := by
  rfl

/-- VA47: RRA. -/
theorem test_va47 :
    goes blank [0x1F#8] []
      { Cpu.postBoot with a := 0x81#8, f := 0x00#8 }
      { Cpu.postBoot with a := 0x40#8, f := 0x10#8, pc := 0x0101#16 }
      [] 0x01#8 1 = true := by
  rfl

/-- VW2: ADD HL,DE. -/
theorem test_vw2 :
    goes blank [0x19#8] []
      { Cpu.postBoot with h := 0xFF#8, l := 0xFF#8, d := 0x00#8, e := 0x01#8, f := 0x00#8 }
      { Cpu.postBoot with h := 0x00#8, l := 0x00#8, d := 0x00#8, e := 0x01#8, f := 0x30#8, pc := 0x0101#16 }
      [] 0x01#8 2 = true := by
  rfl

/-- VW4: ADD HL,SP. -/
theorem test_vw4 :
    goes blank [0x39#8] []
      { Cpu.postBoot with h := 0x10#8, l := 0x00#8, sp := 0x0FFF#16, f := 0x00#8 }
      { Cpu.postBoot with h := 0x1F#8, l := 0xFF#8, sp := 0x0FFF#16, f := 0x00#8, pc := 0x0101#16 }
      [] 0x01#8 2 = true := by
  rfl

/-- VW6: INC SP. -/
theorem test_vw6 :
    goes blank [0x33#8] []
      { Cpu.postBoot with sp := 0xFFFF#16 }
      { Cpu.postBoot with sp := 0x0000#16, pc := 0x0101#16 }
      [] 0x01#8 2 = true := by
  rfl

/-- VW7: DEC BC. -/
theorem test_vw7 :
    goes blank [0x0B#8] []
      { Cpu.postBoot with b := 0x00#8, c := 0x00#8 }
      { Cpu.postBoot with b := 0xFF#8, c := 0xFF#8, pc := 0x0101#16 }
      [] 0x01#8 2 = true := by
  rfl

/-- VW10: ADD SP,e8 (-1). -/
theorem test_vw10 :
    goes blank [0xE8#8, 0xFF#8] []
      { Cpu.postBoot with sp := 0x0005#16 }
      { Cpu.postBoot with sp := 0x0004#16, f := 0x30#8, pc := 0x0102#16 }
      [] 0x01#8 4 = true := by
  rfl

/-- VW12: ADD SP,e8 (-128). -/
theorem test_vw12 :
    goes blank [0xE8#8, 0x80#8] []
      { Cpu.postBoot with sp := 0xC080#16 }
      { Cpu.postBoot with sp := 0xC000#16, f := 0x10#8, pc := 0x0102#16 }
      [] 0x01#8 4 = true := by
  rfl

/-- VW13: LD HL,SP+e8. -/
theorem test_vw13 :
    goes blank [0xF8#8, 0x02#8] []
      { Cpu.postBoot with sp := 0xFFFE#16 }
      { Cpu.postBoot with sp := 0xFFFE#16, f := 0x30#8, h := 0x00#8, l := 0x00#8, pc := 0x0102#16 }
      [] 0x01#8 3 = true := by
  rfl

/-- VW15: LD HL,SP+e8 (-2). -/
theorem test_vw15 :
    goes blank [0xF8#8, 0xFE#8] []
      { Cpu.postBoot with sp := 0xD000#16 }
      { Cpu.postBoot with sp := 0xD000#16, f := 0x00#8, h := 0xCF#8, l := 0xFE#8, pc := 0x0102#16 }
      [] 0x01#8 3 = true := by
  rfl

/-- VJ1: JP a16. -/
theorem test_vj1 :
    goes blank [0xC3#8, 0x50#8, 0x01#8] []
      Cpu.postBoot
      { Cpu.postBoot with pc := 0x0150#16 }
      [] 0x01#8 4 = true := by
  rfl

/-- VJ2: JP NZ,a16 (not taken). -/
theorem test_vj2 :
    goes blank [0xC2#8, 0x00#8, 0x02#8] []
      { Cpu.postBoot with f := 0x80#8 }
      { Cpu.postBoot with f := 0x80#8, pc := 0x0103#16 }
      [] 0x01#8 3 = true := by
  rfl

/-- VJ3: JP Z,a16 (taken). -/
theorem test_vj3 :
    goes blank [0xCA#8, 0x00#8, 0x02#8] []
      { Cpu.postBoot with f := 0x80#8 }
      { Cpu.postBoot with f := 0x80#8, pc := 0x0200#16 }
      [] 0x01#8 4 = true := by
  rfl

/-- VJ6: JP HL. -/
theorem test_vj6 :
    goes blank [0xE9#8] []
      { Cpu.postBoot with h := 0xC0#8, l := 0x00#8 }
      { Cpu.postBoot with h := 0xC0#8, l := 0x00#8, pc := 0xC000#16 }
      [] 0x01#8 1 = true := by
  rfl

/-- VJ8: JR e8 (-2). -/
theorem test_vj8 :
    goes blank [0x18#8, 0xFE#8] []
      { Cpu.postBoot with pc := 0x0200#16 }
      { Cpu.postBoot with pc := 0x0200#16 }
      [] 0x01#8 3 = true := by
  rfl

/-- VJ9: JR e8 wrap. -/
theorem test_vj9 :
    goes blank [] [(0xFFFE#16, 0x18#8), (0xFFFF#16, 0x01#8)]
      { Cpu.postBoot with pc := 0xFFFE#16 }
      { Cpu.postBoot with pc := 0x0001#16 }
      [] 0x01#8 3 = true := by
  rfl

/-- VJ10: JR NZ,e8 (taken). -/
theorem test_vj10 :
    goes blank [0x20#8, 0xFB#8] []
      { Cpu.postBoot with f := 0x00#8, pc := 0x0105#16 }
      { Cpu.postBoot with f := 0x00#8, pc := 0x0102#16 }
      [] 0x01#8 3 = true := by
  rfl

/-- VJ11: JR NZ,e8 (not taken). -/
theorem test_vj11 :
    goes blank [0x20#8, 0xFB#8] []
      { Cpu.postBoot with f := 0x80#8, pc := 0x0105#16 }
      { Cpu.postBoot with f := 0x80#8, pc := 0x0107#16 }
      [] 0x01#8 2 = true := by
  rfl

/-- VJ13: CALL a16. -/
theorem test_vj13 :
    goes blank [0xCD#8, 0x00#8, 0x02#8] []
      { Cpu.postBoot with pc := 0x0150#16 }
      { Cpu.postBoot with pc := 0x0200#16, sp := 0xFFFC#16 }
      [(0xFFFC#16, 0x53#8), (0xFFFD#16, 0x01#8)] 0x01#8 6 = true := by
  rfl

/-- VJ14: CALL NC,a16 (not taken). -/
theorem test_vj14 :
    goes blank [0xD4#8, 0x00#8, 0x02#8] []
      { Cpu.postBoot with f := 0x10#8 }
      { Cpu.postBoot with f := 0x10#8, pc := 0x0103#16 }
      [] 0x01#8 3 = true := by
  rfl

/-- VJ15: CALL Z,a16 (taken). -/
theorem test_vj15 :
    goes blank [0xCC#8, 0x34#8, 0x12#8] []
      { Cpu.postBoot with f := 0x80#8 }
      { Cpu.postBoot with f := 0x80#8, sp := 0xFFFC#16, pc := 0x1234#16 }
      [(0xFFFC#16, 0x03#8), (0xFFFD#16, 0x01#8)] 0x01#8 6 = true := by
  rfl

/-- VJ16: RET. -/
theorem test_vj16 :
    goes blank [0xC9#8] [(0xFFFC#16, 0x53#8), (0xFFFD#16, 0x01#8)]
      { Cpu.postBoot with sp := 0xFFFC#16 }
      { Cpu.postBoot with sp := 0xFFFE#16, pc := 0x0153#16 }
      [] 0x01#8 4 = true := by
  rfl

/-- VJ17: RET Z (taken). -/
theorem test_vj17 :
    goes blank [0xC8#8] [(0xFFFC#16, 0x53#8), (0xFFFD#16, 0x01#8)]
      { Cpu.postBoot with sp := 0xFFFC#16, f := 0x80#8 }
      { Cpu.postBoot with sp := 0xFFFE#16, f := 0x80#8, pc := 0x0153#16 }
      [] 0x01#8 5 = true := by
  rfl

/-- VJ18: RET NZ (not taken). -/
theorem test_vj18 :
    goes blank [0xC0#8] []
      { Cpu.postBoot with sp := 0xFFFC#16, f := 0x80#8 }
      { Cpu.postBoot with sp := 0xFFFC#16, f := 0x80#8, pc := 0x0101#16 }
      [] 0x01#8 2 = true := by
  rfl

/-- VJ19: RETI. -/
theorem test_vj19 :
    goes blank [0xD9#8] [(0xFFFC#16, 0x00#8), (0xFFFD#16, 0x02#8)]
      { Cpu.postBoot with sp := 0xFFFC#16 }
      { Cpu.postBoot with sp := 0xFFFE#16, pc := 0x0200#16, ime := true }
      [] 0x01#8 4 = true := by
  rfl

/-- VJ20: RST 0x28. -/
theorem test_vj20 :
    goes blank [0xEF#8] []
      { Cpu.postBoot with pc := 0x0300#16 }
      { Cpu.postBoot with pc := 0x0028#16, sp := 0xFFFC#16 }
      [(0xFFFC#16, 0x01#8), (0xFFFD#16, 0x03#8)] 0x01#8 4 = true := by
  rfl

/-- VX2: RLC (HL). -/
theorem test_vx2 :
    goes blank [0xCB#8, 0x06#8] [(0xC000#16, 0x00#8)]
      { Cpu.postBoot with h := 0xC0#8, l := 0x00#8, f := 0x00#8 }
      { Cpu.postBoot with h := 0xC0#8, l := 0x00#8, f := 0x80#8, pc := 0x0102#16 }
      [(0xC000#16, 0x00#8)] 0x01#8 4 = true := by
  rfl

/-- VX3: RRC C. -/
theorem test_vx3 :
    goes blank [0xCB#8, 0x09#8] []
      { Cpu.postBoot with c := 0x01#8, f := 0x00#8 }
      { Cpu.postBoot with c := 0x80#8, f := 0x10#8, pc := 0x0102#16 }
      [] 0x01#8 2 = true := by
  rfl

/-- VX5: RL E (carry in). -/
theorem test_vx5 :
    goes blank [0xCB#8, 0x13#8] []
      { Cpu.postBoot with e := 0x00#8, f := 0x10#8 }
      { Cpu.postBoot with e := 0x01#8, f := 0x00#8, pc := 0x0102#16 }
      [] 0x01#8 2 = true := by
  rfl

/-- VX6: RR E. -/
theorem test_vx6 :
    goes blank [0xCB#8, 0x1B#8] []
      { Cpu.postBoot with e := 0x01#8, f := 0x10#8 }
      { Cpu.postBoot with e := 0x80#8, f := 0x10#8, pc := 0x0102#16 }
      [] 0x01#8 2 = true := by
  rfl

/-- VX9: SLA (HL). -/
theorem test_vx9 :
    goes blank [0xCB#8, 0x26#8] [(0xC000#16, 0x80#8)]
      { Cpu.postBoot with h := 0xC0#8, l := 0x00#8, f := 0x00#8 }
      { Cpu.postBoot with h := 0xC0#8, l := 0x00#8, f := 0x90#8, pc := 0x0102#16 }
      [(0xC000#16, 0x00#8)] 0x01#8 4 = true := by
  rfl

/-- VX10: SRA L. -/
theorem test_vx10 :
    goes blank [0xCB#8, 0x2D#8] []
      { Cpu.postBoot with l := 0x81#8, f := 0x00#8 }
      { Cpu.postBoot with l := 0xC0#8, f := 0x10#8, pc := 0x0102#16 }
      [] 0x01#8 2 = true := by
  rfl

/-- VX12: SWAP A. -/
theorem test_vx12 :
    goes blank [0xCB#8, 0x37#8] []
      { Cpu.postBoot with a := 0xF1#8, f := 0x10#8 }
      { Cpu.postBoot with a := 0x1F#8, f := 0x00#8, pc := 0x0102#16 }
      [] 0x01#8 2 = true := by
  rfl

/-- VX15: SRL (HL). -/
theorem test_vx15 :
    goes blank [0xCB#8, 0x3E#8] [(0xC000#16, 0xFF#8)]
      { Cpu.postBoot with h := 0xC0#8, l := 0x00#8, f := 0x00#8 }
      { Cpu.postBoot with h := 0xC0#8, l := 0x00#8, f := 0x10#8, pc := 0x0102#16 }
      [(0xC000#16, 0x7F#8)] 0x01#8 4 = true := by
  rfl

/-- VX16: BIT 7,A. -/
theorem test_vx16 :
    goes blank [0xCB#8, 0x7F#8] []
      { Cpu.postBoot with a := 0x80#8, f := 0x50#8 }
      { Cpu.postBoot with a := 0x80#8, f := 0x30#8, pc := 0x0102#16 }
      [] 0x01#8 2 = true := by
  rfl

/-- VX18: BIT 3,(HL). -/
theorem test_vx18 :
    goes blank [0xCB#8, 0x5E#8] [(0xC000#16, 0x08#8)]
      { Cpu.postBoot with h := 0xC0#8, l := 0x00#8, f := 0x00#8 }
      { Cpu.postBoot with h := 0xC0#8, l := 0x00#8, f := 0x20#8, pc := 0x0102#16 }
      [] 0x01#8 3 = true := by
  rfl

/-- VX19: BIT 0,(HL) in ROM0. -/
theorem test_vx19 :
    goes blank [0xCB#8, 0x46#8] []
      { Cpu.postBoot with h := 0x20#8, l := 0x00#8, f := 0x00#8 }
      { Cpu.postBoot with h := 0x20#8, l := 0x00#8, f := 0xA0#8, pc := 0x0102#16 }
      [] 0x01#8 3 = true := by
  rfl

/-- VX20: RES 0,B. -/
theorem test_vx20 :
    goes blank [0xCB#8, 0x80#8] []
      { Cpu.postBoot with b := 0xFF#8 }
      { Cpu.postBoot with b := 0xFE#8, pc := 0x0102#16 }
      [] 0x01#8 2 = true := by
  rfl

/-- VX21: RES 7,(HL). -/
theorem test_vx21 :
    goes blank [0xCB#8, 0xBE#8] [(0xC000#16, 0x80#8)]
      { Cpu.postBoot with h := 0xC0#8, l := 0x00#8 }
      { Cpu.postBoot with h := 0xC0#8, l := 0x00#8, pc := 0x0102#16 }
      [(0xC000#16, 0x00#8)] 0x01#8 4 = true := by
  rfl

/-- VX22: SET 3,A. -/
theorem test_vx22 :
    goes blank [0xCB#8, 0xDF#8] []
      { Cpu.postBoot with a := 0x00#8 }
      { Cpu.postBoot with a := 0x08#8, pc := 0x0102#16 }
      [] 0x01#8 2 = true := by
  rfl

/-- VX23: SET 7,(HL) in VRAM. -/
theorem test_vx23 :
    goes blank [0xCB#8, 0xFE#8] []
      { Cpu.postBoot with h := 0x80#8, l := 0x00#8 }
      { Cpu.postBoot with h := 0x80#8, l := 0x00#8, pc := 0x0102#16 }
      [(0x8000#16, 0xFF#8)] 0x01#8 4 = true := by
  rfl

/-- VS1: NOP. -/
theorem test_vs1 :
    goes blank [0x00#8] []
      Cpu.postBoot
      { Cpu.postBoot with pc := 0x0101#16 }
      [] 0x01#8 1 = true := by
  rfl

/-- VS2: HALT. -/
theorem test_vs2 :
    goes blank [0x76#8] []
      { Cpu.postBoot with pc := 0x0150#16 }
      { Cpu.postBoot with pc := 0x0151#16, halted := true }
      [] 0x01#8 1 = true := by
  rfl

/-- VS3: STOP (nop2). -/
theorem test_vs3 :
    goes blank [0x10#8, 0x00#8] []
      { Cpu.postBoot with pc := 0x0200#16 }
      { Cpu.postBoot with pc := 0x0202#16 }
      [] 0x01#8 1 = true := by
  rfl

/-- VS4 and VS5: STOP (nop1), STOP (halt). -/
theorem test_vs4_vs5 :
    goes (blankWithStop .nop1) [0x10#8, 0x00#8] []
      { Cpu.postBoot with pc := 0x0200#16 }
      { Cpu.postBoot with pc := 0x0201#16 }
      [] 0x01#8 1 = true ∧
    goes (blankWithStop .halt) [0x10#8, 0x00#8] []
      { Cpu.postBoot with pc := 0x0200#16 }
      { Cpu.postBoot with pc := 0x0202#16, halted := true }
      [] 0x01#8 1 = true := by
  exact ⟨rfl, rfl⟩

/-- VS6: DI. -/
theorem test_vs6 :
    goes blank [0xF3#8] []
      { Cpu.postBoot with ime := true }
      { Cpu.postBoot with ime := false, pc := 0x0101#16 }
      [] 0x01#8 1 = true := by
  rfl

/-- VS7: EI. -/
theorem test_vs7 :
    goes blank [0xFB#8] []
      Cpu.postBoot
      { Cpu.postBoot with pc := 0x0101#16, ime := true }
      [] 0x01#8 1 = true := by
  rfl

/-- VS9: unrecognized D3. -/
theorem test_vs9 :
    goes blank [0xD3#8] []
      Cpu.postBoot
      { Cpu.postBoot with pc := 0x0101#16 }
      [] 0x01#8 1 = true := by
  rfl

/-- VS19: unrecognized FD. -/
theorem test_vs19 :
    goes blank [0xFD#8] []
      Cpu.postBoot
      { Cpu.postBoot with pc := 0x0101#16 }
      [] 0x01#8 1 = true := by
  rfl

/-! ## Witnesses: a concrete state and operands that meet the hypotheses of each statement, at the boundaries of each clause -/

/-- A boot session on the standard map: boot bytes 0xB0, 0xB1 at 0x00 and 0xFF, and distinct cartridge bytes at the edges of its banks. -/
def bootSession : State where
  cpu := Cpu.allZero
  mmu :=
    { bank := 0x01#8
      bootMapped := true
      wram := [(0x0000, 0xC1#8), (0x1FFF, 0xC2#8)]
      hram := [(0x00, 0x81#8), (0x7E, 0x82#8)]
      io := [(0x00, 0x91#8), (0x7F, 0x92#8)]
      ie := 0x1F#8 }
  params :=
    { Params.default with
      cart :=
        { len := 0x8000
          bytes := [(0x0000, 0x01#8), (0x00FF, 0x02#8), (0x0100, 0x03#8), (0x3FFF, 0x04#8), (0x4000, 0x05#8),
            (0x7FFF, 0x06#8)] }
      boot := some { len := 0x100, bytes := [(0x00, 0xB0#8), (0xFF, 0xB1#8)] }
      videoRead := 0x77#8 }

/-- The same session once the overlay is unmapped. -/
def unmappedSession : State := { bootSession with mmu := { bootSession.mmu with bootMapped := false } }

/-- A session with a stub and an unmapped I/O address. -/
def catalogSession : State :=
  { bootSession with params :=
      { bootSession.params with ioKinds := [(0xFF10, .stub 0x5A#8), (0xFF20, .unmapped)] } }

/-- A session whose echo ends at 0xF000. -/
def shortEcho : State :=
  { bootSession with params := { bootSession.params with map := { MapConfig.standard with echoEnd := 0xF000 } } }

/-- A state at 0xC000 with the bytes `bs` there. -/
def inRam (bs : List Byte) : State :=
  match bs with
  | b0 :: b1 :: b2 :: _ =>
    jumpTo 0xC000#16 (writeByte (writeByte (writeByte State.reset 0xC000#16 b0) 0xC001#16 b1) 0xC002#16 b2)
  | _ => State.reset

/-- DecodeOfEncode. -/
theorem witness_wellFormed : (Instr.callA16 0x1234#16).wellFormed = true := by rfl

/-- EncodeOfDecode. -/
theorem witness_decode_ok : decode [0x21#8, 0x00#8, 0xC0#8, 0x76#8] = .ok (.ldHlN16 0xC000#16, [0x76#8]) := by rfl

/-- DecodeIsTotal: the prefix byte, whose instruction has two bytes, the last CB opcode among them. -/
theorem witness_prefix_byte : decode [0xCB#8, 0xFF#8, 0x00#8] = .ok (.set7A, [0x00#8]) := by rfl

/-- StepRunsDecodedInstruction: RUNNING, with LD HL,0xC000 at PC. -/
theorem witness_step_runs :
    (inRam [0x21#8, 0x00#8, 0xC0#8]).cpu.halted = false ∧ (Instr.ldHlN16 0xC000#16).wellFormed = true ∧
    decode [readByte (inRam [0x21#8, 0x00#8, 0xC0#8]) 0xC000#16, readByte (inRam [0x21#8, 0x00#8, 0xC0#8]) 0xC001#16,
      readByte (inRam [0x21#8, 0x00#8, 0xC0#8]) 0xC002#16] = .ok (.ldHlN16 0xC000#16, []) := by
  decide +kernel

/-- StepRefusedExactlyWhileHalted, both clauses. -/
theorem witness_halted_and_running : (enterHalt State.reset).cpu.halted = true ∧ State.reset.cpu.halted = false := by
  decide

/-- ReadByteByAddress and WriteByteByAddress: the map, and the first and last address of each row read. -/
theorem witness_reads_at_edges :
    bootSession.params.map = MapConfig.standard ∧ bootSession.params.boot.isSome = true ∧
    [0x0000#16, 0x00FF#16, 0x0100#16, 0x3FFF#16, 0x4000#16, 0x7FFF#16, 0x8000#16, 0x9FFF#16, 0xA000#16, 0xBFFF#16].map
        (readByte bootSession) =
      [0xB0#8, 0xB1#8, 0x03#8, 0x04#8, 0x05#8, 0x06#8, 0x77#8, 0x77#8, 0xFF#8, 0xFF#8] ∧
    [0xC000#16, 0xDFFF#16, 0xE000#16, 0xFDFF#16, 0xFE00#16, 0xFE9F#16, 0xFEA0#16, 0xFEFF#16].map
        (readByte bootSession) =
      [0xC1#8, 0xC2#8, 0xC1#8, 0x00#8, 0x77#8, 0x77#8, 0xFF#8, 0xFF#8] ∧
    [0xFF00#16, 0xFF50#16, 0xFF7F#16, 0xFF80#16, 0xFFFE#16, 0xFFFF#16].map (readByte bootSession) =
      [0x91#8, 0xFF#8, 0x92#8, 0x81#8, 0x82#8, 0x1F#8] := by
  decide +kernel

/-- ReadByteByAddress: without the overlay, past the end of the cartridge, and the kinds of an I/O address. -/
theorem witness_reads_by_clause :
    bootSession.params.ioKinds = [] ∧ ioKindOf bootSession.params 0xFF4F#16 = .storage ∧
    ioKindOf bootSession.params 0xFF50#16 = .bootDisable ∧ ioKindOf bootSession.params 0xFF51#16 = .storage ∧
    [0x0000#16, 0x00FF#16].map (readByte unmappedSession) = [0x01#8, 0x02#8] ∧
    readByte { bootSession with mmu := { bootSession.mmu with bank := 0x02#8 } } 0x4000#16 = 0xFF#8 ∧
    catalogSession.params.map = MapConfig.standard ∧
    [0xFF10#16, 0xFF20#16].map (readByte catalogSession) = [0x5A#8, 0xFF#8] := by
  decide +kernel

/-- WriteByteByAddress: a write at each edge, and what it leaves. -/
theorem witness_writes_at_edges :
    [0x0000#16, 0x3FFF#16].map (fun a => (writeByte bootSession a 0xFF#8).mmu.bank) = [0x01#8, 0x01#8] ∧
    (writeByte bootSession 0x0000#16 0x00#8).mmu.bank = 0x01#8 ∧
    (writeByte { State.reset with params := { code2 with zeroBankRemap := false } } 0x3FFF#16 0xF8#8).mmu.bank = 0x00#8 ∧
    (writeByte { State.reset with params := code2 } 0x3FFF#16 0xFE#8).mmu.bank = 0x06#8 ∧
    [0x4000#16, 0x7FFF#16, 0x8000#16, 0x9FFF#16, 0xA000#16, 0xBFFF#16, 0xFE00#16, 0xFEFF#16].all
        (fun a => decide (writeByte bootSession a 0x5A#8 = bootSession)) = true ∧
    [0xC000#16, 0xDFFF#16, 0xE000#16, 0xFDFF#16, 0xFF00#16, 0xFF7F#16, 0xFF80#16, 0xFFFE#16, 0xFFFF#16].all
        (fun a => decide (readByte (writeByte bootSession a 0x5A#8) a = 0x5A#8)) = true ∧
    (writeByte bootSession 0xFF50#16 0x01#8).mmu.bootMapped = false ∧
    (writeByte catalogSession 0xFF10#16 0x01#8).mmu = catalogSession.mmu ∧
    (writeByte catalogSession 0xFF20#16 0x01#8).mmu = catalogSession.mmu := by
  decide +kernel

/-- EchoAliasesWorkingRam: the first and last echo address, and the first above a shorter echo. -/
theorem witness_echo :
    bootSession.params.map = { MapConfig.standard with echoEnd := 0xFDFF } ∧
    readByte bootSession 0xE000#16 = readByte bootSession 0xC000#16 ∧
    readByte (writeByte bootSession 0xFDFF#16 0x5A#8) 0xDDFF#16 = 0x5A#8 ∧
    readByte (writeByte shortEcho 0xF000#16 0x5A#8) 0xD000#16 = 0x5A#8 ∧
    readByte shortEcho 0xF001#16 = 0xFF#8 ∧ writeByte shortEcho 0xF001#16 0x5A#8 = shortEcho := by
  decide +kernel

/-- BootUnmapIsOneShot: a mapped session with the default catalog, and a nonzero value. -/
theorem witness_boot_unmap :
    bootSession.params.map = MapConfig.standard ∧ ioKindOf bootSession.params 0xFF50#16 = .bootDisable ∧
    0x80#8 ≠ 0x00#8 ∧ writeByte bootSession 0xFF50#16 0x80#8 = unmappedSession := by
  decide +kernel

/-- WriteByteFrame, and the frames of the stores: addresses a write at each kind of address does not touch. -/
theorem witness_untouched :
    ¬ StoreTouches State.reset.params 0x2000#16 0x3FFF#16 ∧ ¬ StoreTouches State.reset.params 0x4000#16 0x4000#16 ∧
    ¬ StoreTouches State.reset.params 0xC000#16 0xC001#16 ∧ ¬ StoreTouches State.reset.params 0xE000#16 0xC001#16 ∧
    ¬ StoreTouches State.reset.params 0xFF00#16 0xFF01#16 ∧ ¬ StoreTouches State.reset.params 0xFF50#16 0x0100#16 ∧
    ¬ StoreTouches State.reset.params 0xFF80#16 0xFF81#16 ∧ ¬ StoreTouches State.reset.params 0xFFFF#16 0xFFFE#16 := by
  refine ⟨?_, ?_, ?_, ?_, ?_, ?_, ?_, ?_⟩ <;> intro h <;> cases h

/-- StoredByteReadsBack and WordsAreLittleEndian: storage of each kind, and two storage bytes across the end of WRAM. -/
theorem witness_storage :
    State.reset.params.map = MapConfig.standard ∧
    IsStorage State.reset.params 0xC000#16 ∧ IsStorage State.reset.params 0xDFFF#16 ∧
    IsStorage State.reset.params 0xE000#16 ∧ IsStorage State.reset.params 0xFF00#16 ∧
    IsStorage State.reset.params 0xFF80#16 ∧ IsStorage State.reset.params 0xFFFE#16 ∧
    IsStorage State.reset.params 0xFFFF#16 :=
  ⟨rfl, trivial, trivial, trivial, rfl, trivial, trivial, trivial⟩

/-- ConstructionSetsTheSession: both refusals and both forks. -/
theorem witness_construction :
    construct { blank with cart := { len := 0x3FFF, bytes := [] } } { wram := [], hram := [], io := [], ie := 0x00#8 } = none ∧
    construct { blank with boot := some { len := 0xFF, bytes := [] } }
      { wram := [], hram := [], io := [], ie := 0x00#8 } = none ∧
    (construct blank { wram := [], hram := [], io := [], ie := 0x00#8 }).isSome = true ∧
    (construct bootSession.params { wram := [], hram := [], io := [], ie := 0x00#8 }).isSome = true := by
  decide +kernel

/-- ConstructedSessionOk: images and RAM contents in canonical form. -/
theorem witness_canonical_images :
    Image.wf bootSession.params.cart = true ∧
    (∀ b, bootSession.params.boot = some b → Image.wf b = true) ∧
    RamInit.wf { wram := [(0x1FFF, 0x01#8)], hram := [(0x7E, 0x02#8)], io := [(0x7F, 0x03#8)], ie := 0x04#8 } = true ∧
    (construct bootSession.params
      { wram := [(0x1FFF, 0x01#8)], hram := [(0x7E, 0x02#8)], io := [(0x7F, 0x03#8)], ie := 0x04#8 }).isSome = true :=
  ⟨by decide +kernel, by rintro b ⟨⟩; decide +kernel, by decide +kernel, by decide +kernel⟩

/-- StepKeepsSessionOk: a boot session in order whose step is a next state. -/
theorem witness_session_ok : SessionOk bootSession ∧ ∃ t, step bootSession = .next t :=
  ⟨⟨rfl, by decide, by decide, by decide, by decide, by decide, by decide, fun _ => rfl, by decide +kernel⟩, _, rfl⟩

/-- StepKeepsParamsAndOneWayState: a step from a state with the overlay unmapped. -/
theorem witness_one_way : unmappedSession.mmu.bootMapped = false ∧ ∃ t, step unmappedSession = .next t := ⟨rfl, _, rfl⟩

/-- OnlyDiEiRetiWriteIme and OnlyHaltAndStopWriteHalted: DI, EI, RETI, HALT, both kinds of STOP and NOP answer a next state. -/
theorem witness_control_instructions :
    (∃ t, exec .di State.reset = .next t) ∧ (∃ t, exec .ei State.reset = .next t) ∧
    (∃ t, exec .reti State.reset = .next t) ∧ (∃ t, exec .halt State.reset = .next t) ∧
    (∃ t, exec (.stop 0x00#8) State.reset = .next t) ∧ State.reset.params.stopMode = .nop2 ∧
    (∃ t, exec .nop State.reset = .next t) :=
  ⟨⟨_, rfl⟩, ⟨_, rfl⟩, ⟨_, rfl⟩, ⟨_, rfl⟩, ⟨_, rfl⟩, rfl, ⟨_, rfl⟩⟩

/-- OnlyListedInstructionsWriteSp: LD HL,SP+e8 is not listed. -/
theorem witness_keeps_sp : ¬ WritesSp (.ldHlSpE8 0x01#8) ∧ ∃ t, exec (.ldHlSpE8 0x01#8) State.reset = .next t := by
  refine ⟨?_, _, rfl⟩
  rintro (⟨q, h⟩ | ⟨q, h⟩ | ⟨a, h⟩ | ⟨cc, a, h⟩ | h | ⟨cc, h⟩ | h | ⟨k, h⟩ | ⟨n, h⟩ | h | ⟨e, h⟩ | h | h) <;>
    first | cases h | (cases q <;> cases h) | (cases cc <;> cases h) | (fin_cases k <;> cases h)

/-- UndocumentedFlagsKept: PUSH AF documents no flag. -/
theorem witness_keeps_flags : ¬ WritesFlags .pushAf ∧ ∃ t, exec .pushAf State.reset = .next t := by
  refine ⟨?_, _, rfl⟩
  rintro (⟨op, x, h⟩ | ⟨op, n, h⟩ | ⟨x, h⟩ | ⟨x, h⟩ | h | h | h | h | h | h | h | h | ⟨rr, h⟩ | ⟨e, h⟩ | ⟨e, h⟩ | h |
    ⟨op, x, h⟩ | ⟨b, x, h⟩ | h)
  · cases op <;> rcases x with r | _ <;> first | cases h | (cases r <;> cases h)
  · cases op <;> cases h
  · rcases x with r | _ <;> first | cases h | (cases r <;> cases h)
  · rcases x with r | _ <;> first | cases h | (cases r <;> cases h)
  · cases h
  · cases h
  · cases h
  · cases h
  · cases h
  · cases h
  · cases h
  · cases h
  · cases rr <;> cases h
  · cases h
  · cases h
  · cases h
  · cases op <;> rcases x with r | _ <;> first | cases h | (cases r <;> cases h)
  · fin_cases b <;> rcases x with r | _ <;> first | cases h | (cases r <;> cases h)
  · cases h

/-- IncDecPair and LoadPairForms: a pair other than SP. -/
theorem witness_not_sp : Reg16.hl ≠ Reg16.sp := by decide

/-- BcdRoundTrip: 99 in A, and 0 and 99 as the operand. -/
theorem witness_bcd :
    { State.reset with cpu := { Cpu.postBoot with a := 0x99#8 } }.cpu.a = bcd 99 ∧ bcd 0 = 0x00#8 ∧ bcd 42 = 0x42#8 ∧ 99 < 100 := by
  decide

/-- CallsPushReturnAddress: a condition that holds and one that does not, after F = 0xB0. -/
theorem witness_conditions :
    condTrue .z State.reset = true ∧ condTrue .nz State.reset = false ∧ condTrue .c State.reset = true ∧
    condTrue .nc State.reset = false := by
  decide

/-- CpuControlEffects: each `stop_mode`; and NopAndUnrecognizedOnlyAdvance and StandardCosts: the standard cycle table, RUNNING. -/
theorem witness_stop_modes_and_costs :
    State.reset.params.stopMode = .nop2 ∧ (blankWithStop .nop1).stopMode = .nop1 ∧
    (blankWithStop .halt).stopMode = .halt ∧ State.reset.params.cycleTable = [] ∧ State.reset.cpu.halted = false := by
  decide

end Sys2Proof.Tests
end

section
/-! PROOF. The cost of a step with the standard cycle table (00_scope R7; 43_control R220; 70_reset R334): from a row of the table to the cost of
its instruction, the row of each family of the opcode maps, the bound on every row, and that the fetch never meets the lone byte 0xCB (`prefixCb`). -/

namespace Sys2Proof.Machine

theorem condHolds_eq_condTrue (cc : Cond) (s : State) : condHolds cc s = condTrue cc s := by
  cases cc <;> rfl

/-! ### From a row of the standard table to the cost -/

/-- With no replaced row, a row without a condition gives its one cost. -/
theorem instrCost_of_fixedCost {s : State} (ht : s.params.cycleTable = []) {i : Instr} {n : Nat}
    (hrow : standardCycles i = some (fixedCost n)) : instrCost i s = some n := by
  simp [instrCost, hrow, ht, replacedCost, fixedCost]

/-- With no replaced row, a conditional transfer's row gives the taken cost exactly when the condition holds (R220). -/
theorem instrCost_of_condCost {s : State} (ht : s.params.cycleTable = []) {i : Instr} {cc : Cond} {taken notTaken : Nat}
    (hrow : standardCycles i = some (condCost cc taken notTaken)) :
    instrCost i s = some (if condTrue cc s then taken else notTaken) := by
  simp [instrCost, hrow, ht, replacedCost, condCost, condHolds_eq_condTrue]

/-! ### The rows of the families that operand fields name -/

theorem standardCycles_ldReg (dst r : Reg8) : standardCycles (Instr.ldReg dst r) = some (fixedCost 1) := by
  cases dst <;> cases r <;> rfl

theorem standardCycles_ldRegN8 (dst : Reg8) (n : Byte) : standardCycles (Instr.ldRegN8 dst n) = some (fixedCost 2) := by
  cases dst <;> rfl

theorem standardCycles_ldRegIndHl (dst : Reg8) : standardCycles (Instr.ldRegIndHl dst) = some (fixedCost 2) := by
  cases dst <;> rfl

theorem standardCycles_ldIndHlReg (r : Reg8) : standardCycles (Instr.ldIndHlReg r) = some (fixedCost 2) := by
  cases r <;> rfl

theorem standardCycles_inc_reg (r : Reg8) : standardCycles (Instr.inc (.reg r)) = some (fixedCost 1) := by
  cases r <;> rfl

theorem standardCycles_dec_reg (r : Reg8) : standardCycles (Instr.dec (.reg r)) = some (fixedCost 1) := by
  cases r <;> rfl

theorem standardCycles_unrecognized (k : Fin 11) : standardCycles (Instr.unrecognized k) = some (fixedCost 1) := by
  revert k
  decide

theorem standardCycles_alu_reg (op : AluOp) (r : Reg8) : standardCycles (Instr.alu op (.reg r)) = some (fixedCost 1) := by
  cases op <;> cases r <;> rfl

theorem standardCycles_alu_indHl (op : AluOp) : standardCycles (Instr.alu op .indHl) = some (fixedCost 2) := by
  cases op <;> rfl

theorem standardCycles_aluN8 (op : AluOp) (n : Byte) : standardCycles (Instr.aluN8 op n) = some (fixedCost 2) := by
  cases op <;> rfl

theorem standardCycles_addHlPair (rr : Reg16) : standardCycles (Instr.addHlPair rr) = some (fixedCost 2) := by
  cases rr <;> rfl

theorem standardCycles_incPair (rr : Reg16) : standardCycles (Instr.incPair rr) = some (fixedCost 2) := by
  cases rr <;> rfl

theorem standardCycles_decPair (rr : Reg16) : standardCycles (Instr.decPair rr) = some (fixedCost 2) := by
  cases rr <;> rfl

theorem standardCycles_ldPairN16 (rr : Reg16) (n : Word) :
    standardCycles (Instr.ldPairN16 rr n) = some (fixedCost 3) := by
  cases rr <;> rfl

theorem standardCycles_pop (q : StackPair) : standardCycles (Instr.pop q) = some (fixedCost 3) := by
  cases q <;> rfl

theorem standardCycles_push (q : StackPair) : standardCycles (Instr.push q) = some (fixedCost 4) := by
  cases q <;> rfl

theorem standardCycles_rst (t : Fin 8) : standardCycles (Instr.rst t) = some (fixedCost 4) := by
  revert t
  decide

theorem standardCycles_jrCond (cc : Cond) (e : Byte) : standardCycles (Instr.jrCond cc e) = some (condCost cc 3 2) := by
  cases cc <;> rfl

theorem standardCycles_jpCond (cc : Cond) (a : Word) : standardCycles (Instr.jpCond cc a) = some (condCost cc 4 3) := by
  cases cc <;> rfl

theorem standardCycles_callCond (cc : Cond) (a : Word) :
    standardCycles (Instr.callCond cc a) = some (condCost cc 6 3) := by
  cases cc <;> rfl

theorem standardCycles_retCond (cc : Cond) : standardCycles (Instr.retCond cc) = some (condCost cc 5 2) := by
  cases cc <;> rfl

theorem standardCycles_shift_reg (op : ShiftOp) (r : Reg8) :
    standardCycles (Instr.shift op (.reg r)) = some (fixedCost 2) := by
  cases op <;> cases r <;> rfl

theorem standardCycles_shift_indHl (op : ShiftOp) : standardCycles (Instr.shift op .indHl) = some (fixedCost 4) := by
  cases op <;> rfl

theorem standardCycles_bit_reg (b : Fin 8) (r : Reg8) : standardCycles (Instr.bit b (.reg r)) = some (fixedCost 2) := by
  cases r <;> revert b <;> decide

theorem standardCycles_bit_indHl (b : Fin 8) : standardCycles (Instr.bit b .indHl) = some (fixedCost 3) := by
  revert b
  decide

theorem standardCycles_res_reg (b : Fin 8) (r : Reg8) : standardCycles (Instr.res b (.reg r)) = some (fixedCost 2) := by
  cases r <;> revert b <;> decide

theorem standardCycles_res_indHl (b : Fin 8) : standardCycles (Instr.res b .indHl) = some (fixedCost 4) := by
  revert b
  decide

theorem standardCycles_set_reg (b : Fin 8) (r : Reg8) : standardCycles (Instr.set b (.reg r)) = some (fixedCost 2) := by
  cases r <;> revert b <;> decide

theorem standardCycles_set_indHl (b : Fin 8) : standardCycles (Instr.set b .indHl) = some (fixedCost 4) := by
  revert b
  decide

/-! ### The bound on every row, and the fetched instruction -/

/-- Every instruction but `prefixCb` has a row, with one cost or with two of a condition, each from 1 to 6 (R7). -/
theorem standardCycles_cases (i : Instr) (hi : i.wellFormed = true) :
    (∃ n, standardCycles i = some (fixedCost n) ∧ 1 ≤ n ∧ n ≤ 6) ∨
    ∃ cc taken notTaken, standardCycles i = some (condCost cc taken notTaken) ∧
      (1 ≤ taken ∧ taken ≤ 6) ∧ 1 ≤ notTaken ∧ notTaken ≤ 6 := by
  cases i
  case prefixCb => exact absurd hi (by decide)
  case jrNzE8 | jrZE8 | jrNcE8 | jrCE8 | jpNzA16 | jpZA16 | jpNcA16 | jpCA16 | callNzA16 | callZA16 | callNcA16 | callCA16 |
      retNz | retZ | retNc | retC =>
    exact .inr ⟨_, _, _, rfl, by decide, by decide⟩
  all_goals exact .inl ⟨_, rfl, by decide⟩

theorem instrCost_inRange {s : State} (ht : s.params.cycleTable = []) (i : Instr) (hi : i.wellFormed = true) :
    ∃ n, instrCost i s = some n ∧ 1 ≤ n ∧ n ≤ 6 := by
  obtain ⟨n, hrow, hn⟩ | ⟨cc, taken, notTaken, hrow, htaken, hnotTaken⟩ := standardCycles_cases i hi
  · exact ⟨n, instrCost_of_fixedCost ht hrow, hn⟩
  · refine ⟨_, instrCost_of_condCost ht hrow, ?_⟩
    split
    · exact htaken
    · exact hnotTaken

/-- Three bytes are enough for a whole instruction, so `prefixCb` is never read (30_encoding R104, R107). -/
theorem decode3_wellFormed (op b1 b2 : Byte) : (decode3 op b1 b2).wellFormed = true := by
  have henc := primaryEntry_encodes op
  unfold decode3
  cases hentry : primaryEntry op <;> rw [hentry] at henc
  case op i => exact henc.2
  case byte mk => exact (henc b1).2
  case word mk => exact (henc (joinBytes b2 b1)).2
  case prefixed => exact (encode_cbInstr b1).2

theorem fetchInstr_wellFormed (s : State) : (fetchInstr s).wellFormed = true := decode3_wellFormed _ _ _

theorem stepCost_of_running {s : State} (h : s.cpu.halted = false) : stepCost s = instrCost (fetchInstr s) s := by
  simp [stepCost, h]

/-! ### The statement -/

/-- Settles O60: each group's cost comes from the row of its family, and the step's cost from the bound on the fetched instruction's row. -/
theorem standardCosts : Obligations.StandardCosts := by
  intro s ht
  have fixed {i : Instr} {n : Nat} : standardCycles i = some (fixedCost n) → instrCost i s = some n :=
    instrCost_of_fixedCost ht
  refine ⟨fun hrun => ?running, fun i hi => fixed ?one, fun dst r n => ?loads, fun k => fixed (standardCycles_unrecognized k),
    fun op r n => ?alu, fun i hi => fixed ?two, fun rr n => ?pairs, fun q n a k => ?others, fun cc a e => ?conditional,
    fun op b r => ?prefixed⟩
  case running =>
    rw [stepCost_of_running hrun]
    exact instrCost_inRange ht _ (fetchInstr_wellFormed s)
  case one =>
    revert i
    decide
  case loads =>
    exact ⟨fixed (standardCycles_ldReg dst r), fixed (standardCycles_inc_reg r), fixed (standardCycles_dec_reg r), fixed rfl,
      fixed (standardCycles_ldRegN8 dst n), fixed (standardCycles_ldRegIndHl dst), fixed (standardCycles_ldIndHlReg r)⟩
  case alu =>
    exact ⟨fixed (standardCycles_alu_reg op r), fixed (standardCycles_alu_indHl op), fixed (standardCycles_aluN8 op n)⟩
  case two =>
    revert i
    decide
  case pairs =>
    exact ⟨fixed (standardCycles_addHlPair rr), fixed (standardCycles_incPair rr), fixed (standardCycles_decPair rr),
      fixed (standardCycles_ldPairN16 rr n)⟩
  case others =>
    exact ⟨fixed (standardCycles_pop q), fixed rfl, fixed rfl, fixed rfl, fixed rfl, fixed rfl, fixed rfl, fixed rfl, fixed rfl,
      fixed rfl, fixed (standardCycles_push q), fixed rfl, fixed rfl, fixed rfl, fixed rfl, fixed (standardCycles_rst k),
      fixed rfl, fixed rfl⟩
  case conditional =>
    exact ⟨instrCost_of_condCost ht (standardCycles_jrCond cc e), instrCost_of_condCost ht (standardCycles_jpCond cc a),
      instrCost_of_condCost ht (standardCycles_callCond cc a), instrCost_of_condCost ht (standardCycles_retCond cc)⟩
  case prefixed =>
    exact ⟨fixed (standardCycles_shift_reg op r), fixed (standardCycles_bit_reg b r), fixed (standardCycles_res_reg b r),
      fixed (standardCycles_set_reg b r), fixed (standardCycles_bit_indHl b), fixed (standardCycles_shift_indHl op),
      fixed (standardCycles_res_indHl b), fixed (standardCycles_set_indHl b)⟩

end Sys2Proof.Machine
end

section
/-! PROOF. A session in order (10_state R24, R33 to R35; 20_memory R56 to R58, R66; 70_reset R321): what a step answers, what any run of
byte writes does to each part of the MMU, and from both the invariant through every step, at construction and at reset. -/

namespace Sys2Proof.Machine

/-! ### The step -/

/-- A step answers a next state only while RUNNING, and then it is `exec` of the fetched instruction (30_encoding R110; 45_misc R271). -/
theorem step_eq_next_iff {s t : State} :
    step s = .next t ↔ s.cpu.halted = false ∧ exec (fetchInstr s) s = .next t := by
  cases hrun : s.cpu.halted <;> simp [step, hrun]

theorem step_evolves {s t : State} (h : step s = .next t) : Evolves s t :=
  exec_evolves _ (step_eq_next_iff.mp h).2

/-- Three bytes decode to `decode3` of them (30_encoding R107). -/
theorem decode3_eq_of_decode {op b1 b2 : Byte} {i : Instr} {rest : List Byte} (h : decode [op, b1, b2] = .ok (i, rest)) :
    decode3 op b1 b2 = i := by
  unfold decode3
  cases he : primaryEntry op with
  | op j => rw [decode_of_op he] at h; cases h; rfl
  | byte mk => rw [decode_of_byte he] at h; cases h; rfl
  | word mk => rw [decode_of_word he] at h; cases h; rfl
  | prefixed => rw [decode_of_prefixed he] at h; cases h; rfl

/-- Settles O8: the fetched instruction is the one the three bytes decode to. -/
theorem stepRunsDecodedInstruction : Obligations.StepRunsDecodedInstruction := by
  intro s i rest hrun _ hdecode
  have hfetch : fetchInstr s = i := decode3_eq_of_decode hdecode
  simp [step, hrun, hfetch]

/-! ### Any run of byte writes -/

theorem WrittenFrom.canonical {p : Params} {m m' : Mmu} (h : WrittenFrom p m m')
    (hm : Memory.wf m.wram = true ∧ Memory.wf m.hram = true ∧ Memory.wf m.io = true) :
    Memory.wf m'.wram = true ∧ Memory.wf m'.hram = true ∧ Memory.wf m'.io = true := by
  induction h with
  | start => exact hm
  | write _ a v ih =>
    obtain ⟨hw, hh, hi⟩ := ih
    exact mmuWrite_canonical p _ a v hw hh hi

theorem WrittenFrom.sized {p : Params} (hp : p.map = MapConfig.standard) {m m' : Mmu} (h : WrittenFrom p m m')
    (hm : Memory.below 0x2000 m.wram = true ∧ Memory.below 0x7F m.hram = true ∧ Memory.below 0x80 m.io = true) :
    Memory.below 0x2000 m'.wram = true ∧ Memory.below 0x7F m'.hram = true ∧ Memory.below 0x80 m'.io = true := by
  induction h with
  | start => exact hm
  | write _ a v ih =>
    obtain ⟨hw, hh, hi⟩ := ih
    exact mmuWrite_sized hp _ a v hw hh hi

/-- A byte write keeps `bank` or selects one (20_memory R56). -/
theorem bank_mmuWrite (p : Params) (m : Mmu) (a : Word) (v : Byte) :
    (mmuWrite p m a v).bank = m.bank ∨ (mmuWrite p m a v).bank = selectBank p v := by
  rcases mmuWrite_cases p m a v with h | h | h | ⟨-, h⟩ | ⟨-, h⟩ | ⟨-, h⟩ | ⟨-, h⟩ | h <;> simp [h]

theorem WrittenFrom.bank {p : Params} {m m' : Mmu} (h : WrittenFrom p m m') :
    m'.bank = m.bank ∨ ∃ v, m'.bank = selectBank p v := by
  induction h with
  | start => exact .inl rfl
  | @write m' _ a v ih =>
    obtain hkept | hselected := bank_mmuWrite p m' a v
    · rwa [hkept]
    · exact .inr ⟨v, hselected⟩

/-- A byte write keeps `boot_mapped` or clears it (20_memory R66). -/
theorem bootMapped_mmuWrite (p : Params) (m : Mmu) (a : Word) (v : Byte) :
    (mmuWrite p m a v).bootMapped = m.bootMapped ∨ (mmuWrite p m a v).bootMapped = false := by
  rcases mmuWrite_cases p m a v with h | h | h | ⟨-, h⟩ | ⟨-, h⟩ | ⟨-, h⟩ | ⟨-, h⟩ | h <;> simp [h]

theorem WrittenFrom.bootMapped {p : Params} {m m' : Mmu} (h : WrittenFrom p m m') :
    m'.bootMapped = m.bootMapped ∨ m'.bootMapped = false := by
  induction h with
  | start => exact .inl rfl
  | @write m' _ a v ih =>
    obtain hkept | hcleared := bootMapped_mmuWrite p m' a v
    · rwa [hkept]
    · exact .inr hcleared

/-! ### What a bank-select write leaves -/

/-- Every header code's mask has bit 0, so bank 1 is inside it (20_memory R57). -/
theorem bankOne_masked (code : Byte) : 0x01#8 &&& ~~~bankMaskOf code = 0x00#8 := by
  revert code
  decide +kernel

theorem Params.wf_bankMask {p : Params} (h : Params.wf p = true) : p.bankMask = bankMaskOf (imageByte p.cart 0x0148) := by
  simp only [Params.wf, Bool.and_eq_true, decide_eq_true_eq] at h
  exact h.2

theorem selectBank_masked {p : Params} (hp : Params.wf p = true) (v : Byte) :
    selectBank p v &&& ~~~p.bankMask = 0x00#8 := by
  unfold selectBank remapBank
  split
  · rw [Params.wf_bankMask hp]
    exact bankOne_masked _
  · rw [BitVec.and_assoc, BitVec.and_not_self]
    exact BitVec.and_zero

theorem selectBank_ne_zero {p : Params} (hp : p.zeroBankRemap = true) (v : Byte) : selectBank p v ≠ 0x00#8 := by
  unfold selectBank remapBank
  split
  · decide
  · next hzero => exact fun h => hzero ⟨hp, h⟩

/-! ### The invariant -/

/-- Whatever changes the MMU by byte writes alone, keeps the parameters and keeps or clears F[3:0], keeps a session in order. -/
theorem SessionOk.of_evolves {s t : State} (hs : SessionOk s) (h : Evolves s t) : SessionOk t := by
  obtain ⟨hparams, hmmu, hlow⟩ := h
  obtain ⟨hw, hh, hi⟩ := hmmu.canonical ⟨hs.wramCanonical, hs.hramCanonical, hs.ioCanonical⟩
  exact
    { lowFlagsZero := hlow.elim (·.trans hs.lowFlagsZero) id
      wramCanonical := hw
      hramCanonical := hh
      ioCanonical := hi
      arraysSized := fun hmap => by
        rw [hparams] at hmap
        exact hmmu.sized hmap (hs.arraysSized hmap)
      bankMasked := by
        rw [hparams]
        obtain hbank | ⟨v, hbank⟩ := hmmu.bank
        · exact hbank ▸ hs.bankMasked
        · exact hbank ▸ selectBank_masked hs.paramsOk v
      bankNotZero := fun hremap => by
        rw [hparams] at hremap
        obtain hbank | ⟨v, hbank⟩ := hmmu.bank
        · exact hbank ▸ hs.bankNotZero hremap
        · exact hbank ▸ selectBank_ne_zero hremap v
      bootSupplied := fun hmapped => by
        rw [hparams]
        exact hs.bootSupplied (by simpa [hmapped] using hmmu.bootMapped)
      paramsOk := hparams ▸ hs.paramsOk }

/-- Settles O22: a step is an instruction's evolution of the state, which keeps each part of the invariant. -/
theorem stepKeepsSessionOk : Obligations.StepKeepsSessionOk := fun _ _ hs h => hs.of_evolves (step_evolves h)

/-- Settles O25: the parameters, the overlay and `bank` follow the byte writes of the step, which starts only while RUNNING. -/
theorem stepKeepsParamsAndOneWayState : Obligations.StepKeepsParamsAndOneWayState := by
  intro s t h
  obtain ⟨hparams, hmmu, -⟩ := step_evolves h
  refine ⟨hparams, fun hunmapped => ?_, (step_eq_next_iff.mp h).1, hmmu.bank⟩
  simpa [hunmapped] using hmmu.bootMapped

/-! ### Construction and reset -/

/-- Construction answers a session only for accepted images, and then this one (70_reset R321). -/
theorem construct_eq_some_iff {p : Params} {ram : RamInit} {s : State} :
    construct p ram = some s ↔ imagesAccepted p = true ∧
      { cpu := cpuAtConstruction p, mmu := mmuAtConstruction p ram, params := withBankMask p } = s := by
  simp [construct]

theorem lowNibble_cpuAtConstruction (p : Params) : (cpuAtConstruction p).f &&& 0x0F#8 = 0x00#8 := by
  unfold cpuAtConstruction
  split <;> decide

/-- The parameters of an accepted construction from canonical images (70_reset R321; 20_memory R57). -/
theorem withBankMask_wf {p : Params} (haccepted : imagesAccepted p = true) (hcart : Image.wf p.cart = true)
    (hboot : ∀ b, p.boot = some b → Image.wf b = true) : Params.wf (withBankMask p) = true := by
  simp only [Params.wf, Bool.and_eq_true, decide_eq_true_eq]
  refine ⟨⟨⟨haccepted, hcart⟩, ?_⟩, rfl⟩
  split
  · rfl
  · next b hb => exact hboot b hb

/-- Settles O24: each part of the invariant from the state that an accepted construction makes, bank 1 being inside every mask. -/
theorem constructedSessionOk : Obligations.ConstructedSessionOk := by
  intro p ram s hcart hboot hram h
  obtain ⟨haccepted, rfl⟩ := construct_eq_some_iff.mp h
  simp only [RamInit.wf, Bool.and_eq_true] at hram
  obtain ⟨⟨⟨⟨⟨hwram, hhram⟩, hio⟩, hwramSize⟩, hhramSize⟩, hioSize⟩ := hram
  exact
    { lowFlagsZero := lowNibble_cpuAtConstruction p
      wramCanonical := hwram
      hramCanonical := hhram
      ioCanonical := hio
      arraysSized := fun _ => ⟨hwramSize, hhramSize, hioSize⟩
      bankMasked := bankOne_masked _
      bankNotZero := fun _ => by simp [mmuAtConstruction]
      bootSupplied := id
      paramsOk := withBankMask_wf haccepted hcart hboot }

/-- Settles O23: State.reset is the construction with the default parameters and empty RAM. -/
theorem resetSessionOk : Obligations.ResetSessionOk :=
  constructedSessionOk Params.default ⟨[], [], [], Memory.unlisted⟩ State.reset (by decide) (by decide) (by decide)
    (by decide)

/-- Settles O21: each register of `Cpu.postBoot` read off, and the four flags of F = 0xB0. -/
theorem resetRegisters : Obligations.ResetRegisters := by
  refine ⟨?_, ?_, ?_, ?_, rfl, rfl, rfl, rfl, ?_⟩ <;> decide

end Sys2Proof.Machine
end

section
/-! PROOF. SP, F, `ime` and `halted` (10_state R25, R29 to R31): the shared operation that each instruction runs, said once; and from it, for
each of the four, that an instruction outside the list of its writers keeps it. -/

namespace Sys2Proof.Machine

/-! ### What each instruction runs -/

/-- The instruction `i` runs this shared operation in `s` (30_encoding R99 to R105). Only a writer of SP, F, `ime` or `halted` says which
instruction it is; the others keep all four, so for them the operation is enough. -/
inductive Runs (i : Instr) (s : State) : State → Prop where
  | skip : Runs i s (advance 1 s)
  | loadReg (dst r : Reg8) : Runs i s (loadReg dst r s)
  | loadRegImm (dst : Reg8) (n : Byte) : Runs i s (loadRegImm dst n s)
  | loadRegIndHl (dst : Reg8) : Runs i s (loadRegIndHl dst s)
  | storeIndHl (r : Reg8) : Runs i s (storeIndHl r s)
  | loadA (len : Nat) (a : Word) : Runs i s (loadA len a s)
  | storeA (len : Nat) (a : Word) : Runs i s (storeA len a s)
  | loadAStep (delta : Word) : Runs i s (loadAStep delta s)
  | storeAStep (delta : Word) : Runs i s (storeAStep delta s)
  | storeByte (len : Nat) (a : Word) (v : Byte) : Runs i s (writeByte (advance len s) a v)
  | storeWord (len : Nat) (a v : Word) : Runs i s (writeWord (advance len s) a v)
  | jumpAbs (taken : Bool) (a : Word) : Runs i s (jumpAbs taken a s)
  | jumpRel (taken : Bool) (e : Byte) : Runs i s (jumpRel taken e s)
  | jumpTo (a : Word) : Runs i s (jumpTo a (advance 1 s))
  | resetBit (b : Fin 8) (x : Loc) : Runs i s (resetBit b x s)
  | setBit (b : Fin 8) (x : Loc) : Runs i s (setBit b x s)
  | ldPairN16 (rr : Reg16) (n : Word) (h : i = Instr.ldPairN16 rr n) : Runs i s (loadPairImm rr n s)
  | incPair (rr : Reg16) (h : i = Instr.incPair rr) : Runs i s (stepPair rr 1#16 s)
  | decPair (rr : Reg16) (h : i = Instr.decPair rr) : Runs i s (stepPair rr 0xFFFF#16 s)
  | push (q : StackPair) (h : i = Instr.push q) : Runs i s (pushPair q s)
  | pop (q : StackPair) (h : i = Instr.pop q) : Runs i s (popPair q s)
  | call (a : Word) (h : i = .callA16 a) : Runs i s (callAbs true a s)
  | callCond (cc : Cond) (a : Word) (h : i = Instr.callCond cc a) : Runs i s (callAbs (condHolds cc s) a s)
  | ret (h : i = .ret) : Runs i s (returnFrom true s)
  | retCond (cc : Cond) (h : i = Instr.retCond cc) : Runs i s (returnFrom (condHolds cc s) s)
  | reti (h : i = .reti) : Runs i s (setIme true (returnFrom true s))
  | rst (t : Word) (h : ∃ k, i = Instr.rst k) : Runs i s (restartAt t s)
  | ldSpHl (h : i = .ldSpHl) : Runs i s (setSp (regHL s) (advance 1 s))
  | addSpE8 (e : Byte) (h : i = .addSpE8 e) :
      Runs i s (setSpAddFlags (spAdd s.cpu.sp e) (setSp (spAdd s.cpu.sp e).r (advance 2 s)))
  | ldHlSpE8 (e : Byte) (h : i = .ldHlSpE8 e) :
      Runs i s (setSpAddFlags (spAdd s.cpu.sp e) (setHL (spAdd s.cpu.sp e).r (advance 2 s)))
  | alu (op : AluOp) (x : Loc) (h : i = Instr.alu op x) : Runs i s (aluLoc op x s)
  | aluN8 (op : AluOp) (n : Byte) (h : i = Instr.aluN8 op n) : Runs i s (aluImm op n s)
  | inc (x : Loc) (h : i = Instr.inc x) : Runs i s (incLoc x s)
  | dec (x : Loc) (h : i = Instr.dec x) : Runs i s (decLoc x s)
  | daa (h : i = .daa) : Runs i s (decimalAdjust s)
  | cpl (h : i = .cpl) : Runs i s (complementA s)
  | scf (h : i = .scf) : Runs i s (writeCarry true s)
  | ccf (h : i = .ccf) : Runs i s (writeCarry (!flagC s) s)
  | rlca (h : i = .rlca) : Runs i s (rotateA .rlc s)
  | rrca (h : i = .rrca) : Runs i s (rotateA .rrc s)
  | rla (h : i = .rla) : Runs i s (rotateA .rl s)
  | rra (h : i = .rra) : Runs i s (rotateA .rr s)
  | addHlPair (rr : Reg16) (h : i = Instr.addHlPair rr) : Runs i s (addToHL rr s)
  | shift (op : ShiftOp) (x : Loc) (h : i = Instr.shift op x) : Runs i s (shiftLoc op x s)
  | bit (b : Fin 8) (x : Loc) (h : i = Instr.bit b x) : Runs i s (testBit b x s)
  | prefixCb (cb : Byte) (h : i = .prefixCb) : Runs i s (executeCb cb s)
  | di (h : i = .di) : Runs i s (setIme false (advance 1 s))
  | ei (h : i = .ei) : Runs i s (setIme true (advance 1 s))
  | halt (h : i = .halt) : Runs i s (enterHalt (advance 1 s))
  | stop (h : ∃ b, i = .stop b) : Runs i s (stopCore s)

/-- Every instruction answers what its shared operation makes of the state. -/
theorem exec_runs (i : Instr) (s : State) : ∃ t, exec i s = .next t ∧ Runs i s t := by
  cases i
  case stop b => exact ⟨_, rfl, .stop ⟨b, rfl⟩⟩
  case rst00 | rst08 | rst10 | rst18 | rst20 | rst28 | rst30 | rst38 => exact ⟨_, rfl, .rst _ (by decide)⟩
  all_goals
    refine ⟨_, rfl, ?_⟩
    (with_reducible constructor) <;> rfl

theorem runs_of_exec {i : Instr} {s t : State} (h : exec i s = .next t) : Runs i s t := by
  obtain ⟨u, hu, hruns⟩ := exec_runs i s
  rw [hu] at h
  cases h
  exact hruns

/-! ### `ime` and `halted` -/

/-- The instructions that write `ime` (R30) or `halted` (R31). -/
def WritesControl (i : Instr) : Prop := i = .di ∨ i = .ei ∨ i = .reti ∨ i = .halt ∨ ∃ b, i = .stop b

theorem keepsControl_of_exec {i : Instr} {s t : State} (hi : ¬ WritesControl i) (h : exec i s = .next t) :
    KeepsControl s t := by
  simp only [WritesControl, not_or] at hi
  obtain ⟨di, ei, reti, halt, stop⟩ := hi
  replace h := runs_of_exec h
  cases h
  case di h => exact absurd h di
  case ei h => exact absurd h ei
  case reti h => exact absurd h reti
  case halt h => exact absurd h halt
  case stop h => exact absurd h stop
  all_goals simp [KeepsControl, loadReg, loadRegImm, loadRegIndHl, storeIndHl, loadA, storeA, loadAStep, storeAStep,
    loadPairImm, pushPair, popPair, aluLoc, aluImm, aluOnA, incLoc, setIncFlags, decLoc, setDecFlags, decimalAdjust,
    complementA, writeCarry, rotateA, addToHL, setSpAddFlags, restartAt, shiftLoc, testBit, resetBit, setBit]

/-- STOP halts exactly in its halt mode (45_misc R272). -/
theorem stopCore_halted (s : State) :
    (stopCore s).cpu.halted = true ↔ s.cpu.halted = true ∨ s.params.stopMode = .halt := by
  cases hmode : s.params.stopMode <;> simp [stopCore, hmode]

/-- Settles O26: each of the five writers of `ime` or `halted` on its own, and the frame for all others. -/
theorem onlyDiEiRetiWriteIme : Obligations.OnlyDiEiRetiWriteIme := by
  intro i s t h
  by_cases hi : WritesControl i
  · obtain rfl | rfl | rfl | rfl | ⟨b, rfl⟩ := hi <;> cases h <;> simp
  · have hkept := (keepsControl_of_exec hi h).1
    simp only [WritesControl, not_or] at hi
    obtain ⟨di, ei, reti, -⟩ := hi
    simp [di, ei, reti, hkept]

/-- Settles O27: each of the five writers of `ime` or `halted` on its own, and the frame for all others. -/
theorem onlyHaltAndStopWriteHalted : Obligations.OnlyHaltAndStopWriteHalted := by
  intro i s t h
  by_cases hi : WritesControl i
  · obtain rfl | rfl | rfl | rfl | ⟨b, rfl⟩ := hi <;> cases h <;> simp [stopCore_halted]
  · have hkept := (keepsControl_of_exec hi h).2
    simp only [WritesControl, not_or] at hi
    obtain ⟨-, -, -, halt, stop⟩ := hi
    simp [halt, stop, hkept]

/-! ### SP -/

theorem setPair_sp_of_ne {rr : Reg16} (h : rr ≠ .sp) (v : Word) (s : State) : (setPair rr v s).cpu.sp = s.cpu.sp := by
  cases rr
  case sp => exact absurd rfl h
  all_goals rfl

/-- Settles O28: the writers are those R29 lists, LD rr,n16, INC rr and DEC rr only with rr = SP; every other operation keeps SP. -/
theorem onlyListedInstructionsWriteSp : Obligations.OnlyListedInstructionsWriteSp := by
  intro i s t hi h
  simp only [WritesSp, not_or, not_exists] at hi
  obtain ⟨push, pop, call, callCond, ret, retCond, reti, rst, ldSpN16, ldSpHl, addSpE8, incSp, decSp⟩ := hi
  replace h := runs_of_exec h
  cases h
  case push q h => exact absurd h (push q)
  case pop q h => exact absurd h (pop q)
  case call a h => exact absurd h (call a)
  case callCond cc a h => exact absurd h (callCond cc a)
  case ret h => exact absurd h ret
  case retCond cc h => exact absurd h (retCond cc)
  case reti h => exact absurd h reti
  case rst h => exact absurd h (not_exists.mpr rst)
  case ldSpHl h => exact absurd h ldSpHl
  case addSpE8 e h => exact absurd h (addSpE8 e)
  case ldPairN16 rr n h =>
    have hrr : rr ≠ .sp := by rintro rfl; exact ldSpN16 n h
    simp [loadPairImm, setPair_sp_of_ne hrr]
  case incPair rr h =>
    have hrr : rr ≠ .sp := by rintro rfl; exact incSp h
    simp [stepPair, setPair_sp_of_ne hrr]
  case decPair rr h =>
    have hrr : rr ≠ .sp := by rintro rfl; exact decSp h
    simp [stepPair, setPair_sp_of_ne hrr]
  all_goals simp [loadReg, loadRegImm, loadRegIndHl, storeIndHl, loadA, storeA, loadAStep, storeAStep, aluLoc, aluImm,
    aluOnA, incLoc, setIncFlags, decLoc, setDecFlags, decimalAdjust, complementA, writeCarry, rotateA, addToHL,
    setSpAddFlags, shiftLoc, testBit, resetBit, setBit]

/-! ### F -/

theorem setStackPair_f_of_ne {q : StackPair} (h : q ≠ .af) (v : Word) (s : State) :
    (setStackPair q v s).cpu.f = s.cpu.f := by
  cases q
  case af => exact absurd rfl h
  all_goals rfl

/-- Settles O29: the writers are those whose rule documents a flag, POP only into AF; every other operation keeps F. -/
theorem undocumentedFlagsKept : Obligations.UndocumentedFlagsKept := by
  intro i s t hi h
  simp only [WritesFlags, not_or, not_exists] at hi
  obtain ⟨alu, aluN8, inc, dec, daa, cpl, scf, ccf, rlca, rrca, rla, rra, addHlPair, addSpE8, ldHlSpE8, popAf, shift,
    bit, prefixCb⟩ := hi
  replace h := runs_of_exec h
  cases h
  case alu op x h => exact absurd h (alu op x)
  case aluN8 op n h => exact absurd h (aluN8 op n)
  case inc x h => exact absurd h (inc x)
  case dec x h => exact absurd h (dec x)
  case daa h => exact absurd h daa
  case cpl h => exact absurd h cpl
  case scf h => exact absurd h scf
  case ccf h => exact absurd h ccf
  case rlca h => exact absurd h rlca
  case rrca h => exact absurd h rrca
  case rla h => exact absurd h rla
  case rra h => exact absurd h rra
  case addHlPair rr h => exact absurd h (addHlPair rr)
  case addSpE8 e h => exact absurd h (addSpE8 e)
  case ldHlSpE8 e h => exact absurd h (ldHlSpE8 e)
  case shift op x h => exact absurd h (shift op x)
  case bit b x h => exact absurd h (bit b x)
  case prefixCb h => exact absurd h prefixCb
  case pop q h =>
    have hq : q ≠ .af := by rintro rfl; exact popAf h
    simp [popPair, setStackPair_f_of_ne hq]
  all_goals simp [loadReg, loadRegImm, loadRegIndHl, storeIndHl, loadA, storeA, loadAStep, storeAStep, loadPairImm,
    pushPair, restartAt, resetBit, setBit]

end Sys2Proof.Machine
end

section
/-! PROOF. Memory (20_memory R51 to R79): the storage byte that backs an address, and from it what a write leaves, what is read back, the echo, words
and repeated writes; the four kinds of address a write can meet; and the rows of the standard map. -/

namespace Sys2Proof.Machine

/-! ### The storage byte behind an address -/

/-- A storage byte of the MMU (10_state R35). -/
inductive StorageCell where
  | wram (i : Nat)
  | io (i : Nat)
  | hram (i : Nat)
  | ie

/-- The byte the MMU holds there. -/
def StorageCell.read (c : StorageCell) (m : Mmu) : Byte :=
  match c with
  | .wram i => Memory.read m.wram i
  | .io i => Memory.read m.io i
  | .hram i => Memory.read m.hram i
  | .ie => m.ie

/-- The MMU with `v` there. -/
def StorageCell.write (c : StorageCell) (m : Mmu) (v : Byte) : Mmu :=
  match c with
  | .wram i => { m with wram := Memory.write m.wram i v }
  | .io i => { m with io := Memory.write m.io i v }
  | .hram i => { m with hram := Memory.write m.hram i v }
  | .ie => { m with ie := v }

@[simp] theorem StorageCell.read_write_same (c : StorageCell) (m : Mmu) (v : Byte) : c.read (c.write m v) = v := by
  cases c <;> simp [read, write]

theorem StorageCell.read_write_other {c d : StorageCell} (h : d ≠ c) (m : Mmu) (v : Byte) :
    d.read (c.write m v) = d.read m := by
  cases c <;> cases d <;> simp_all [read, write, Memory.read_write_other]

@[simp] theorem StorageCell.write_write_same (c : StorageCell) (m : Mmu) (v : Byte) :
    c.write (c.write m v) v = c.write m v := by
  cases c <;> simp [write]

@[simp] theorem StorageCell.write_bank (c : StorageCell) (m : Mmu) (v : Byte) : (c.write m v).bank = m.bank := by
  cases c <;> rfl

@[simp] theorem StorageCell.write_bootMapped (c : StorageCell) (m : Mmu) (v : Byte) :
    (c.write m v).bootMapped = m.bootMapped := by
  cases c <;> rfl

@[simp] theorem StorageCell.read_bank (c : StorageCell) (m : Mmu) (b : Byte) :
    c.read { m with bank := b } = c.read m := by
  cases c <;> rfl

@[simp] theorem StorageCell.read_bootMapped (c : StorageCell) (m : Mmu) (b : Bool) :
    c.read { m with bootMapped := b } = c.read m := by
  cases c <;> rfl

/-- The storage byte behind an address of WRAM, ECHO, I/O storage, HRAM or IE (R62, R63, R65, R67, R68). -/
inductive BackedBy (p : Params) (a : Word) : StorageCell → Prop where
  | wram {i : Nat} (hr : regionOf p.map a = .wram) (hi : wramIndex p.map a = i) : BackedBy p a (.wram i)
  | echo {i : Nat} (hr : regionOf p.map a = .echo) (hi : echoIndex p.map a = i) : BackedBy p a (.wram i)
  | io {i : Nat} (hr : regionOf p.map a = .io) (hk : ioKindOf p a = .storage) (hi : ioIndex p.map a = i) :
      BackedBy p a (.io i)
  | hram {i : Nat} (hr : regionOf p.map a = .hram) (hi : hramIndex p.map a = i) : BackedBy p a (.hram i)
  | ie (hr : regionOf p.map a = .ie) : BackedBy p a .ie

theorem isStorage_iff {p : Params} {a : Word} : IsStorage p a ↔ ∃ c, BackedBy p a c := by
  constructor
  · intro h
    cases hr : regionOf p.map a <;> simp only [IsStorage, hr] at h
    case wram => exact ⟨_, .wram hr rfl⟩
    case echo => exact ⟨_, .echo hr rfl⟩
    case io => exact ⟨_, .io hr h rfl⟩
    case hram => exact ⟨_, .hram hr rfl⟩
    case ie => exact ⟨_, .ie hr⟩
  · rintro ⟨c, h⟩
    cases h <;> simp [IsStorage, *]

theorem BackedBy.readByte_eq {s : State} {a : Word} {c : StorageCell} (h : BackedBy s.params a c) :
    readByte s a = c.read s.mmu := by
  cases h <;> simp [readByte, StorageCell.read, *]

theorem BackedBy.mmuWrite_eq {p : Params} {a : Word} {c : StorageCell} (h : BackedBy p a c) (m : Mmu) (v : Byte) :
    mmuWrite p m a v = c.write m v := by
  cases h <;> simp [mmuWrite, StorageCell.write, *]

theorem BackedBy.readByte_writeByte_same {s : State} {a b : Word} {c : StorageCell} (ha : BackedBy s.params a c)
    (hb : BackedBy s.params b c) (v : Byte) : readByte (writeByte s a v) b = v := by
  rw [readByte_eq (s := writeByte s a v) hb, writeByte_mmu, ha.mmuWrite_eq, StorageCell.read_write_same]

theorem BackedBy.readByte_writeByte_other {s : State} {a b : Word} {c d : StorageCell} (ha : BackedBy s.params a c)
    (hb : BackedBy s.params b d) (h : d ≠ c) (v : Byte) : readByte (writeByte s a v) b = readByte s b := by
  rw [readByte_eq (s := writeByte s a v) hb, writeByte_mmu, ha.mmuWrite_eq, StorageCell.read_write_other h,
    hb.readByte_eq]

/-- Two addresses with one storage byte behind them, which only those of WRAM and ECHO, and those of IE, can be. -/
theorem BackedBy.shared {p : Params} {a b : Word} {c : StorageCell} (ha : BackedBy p a c) (hb : BackedBy p b c) :
    b = a ∨ (∃ i, c = .wram i) ∨ c = .ie := by
  cases c with
  | wram i => exact .inr (.inl ⟨i, rfl⟩)
  | ie => exact .inr (.inr rfl)
  | io i =>
    cases ha with | io hra _ hia =>
    cases hb with | io hrb _ hib =>
    have := regionOf_io hra
    have := regionOf_io hrb
    simp only [ioIndex] at hia hib
    exact .inl (BitVec.eq_of_toNat_eq (by omega))
  | hram i =>
    cases ha with | hram hra hia =>
    cases hb with | hram hrb hib =>
    have := regionOf_hram hra
    have := regionOf_hram hrb
    simp only [hramIndex] at hia hib
    exact .inl (BitVec.eq_of_toNat_eq (by omega))

theorem BackedBy.wramCell_eq {p : Params} {a : Word} {i : Nat} (h : BackedBy p a (.wram i)) :
    wramCell p.map a = some i := by
  cases h <;> simp [wramCell, *]

/-- A write touches every address with the same storage byte behind it. -/
theorem BackedBy.storeTouches {p : Params} {a b : Word} {c : StorageCell} (ha : BackedBy p a c)
    (hb : BackedBy p b c) : StoreTouches p a b := by
  obtain rfl | ⟨i, rfl⟩ | rfl := ha.shared hb
  · cases ha <;> simp [StoreTouches, *]
  · have hcell : wramCell p.map b = wramCell p.map a := hb.wramCell_eq.trans ha.wramCell_eq.symm
    cases ha <;> simp [StoreTouches, *]
  · cases ha with | ie hra =>
    cases hb with | ie hrb =>
    simp [StoreTouches, hra, hrb]

/-! ### The four kinds of address a write can meet -/

theorem mmuWrite_of_bankSelect {p : Params} {a : Word} (h : regionOf p.map a = .bootRom0 ∨ regionOf p.map a = .rom0)
    (m : Mmu) (v : Byte) : mmuWrite p m a v = { m with bank := selectBank p v } := by
  obtain hr | hr := h <;> simp only [mmuWrite, hr]

theorem mmuWrite_of_bootDisable {p : Params} {a : Word} (hr : regionOf p.map a = .io)
    (hk : ioKindOf p a = .bootDisable) (m : Mmu) (v : Byte) :
    mmuWrite p m a v = if v = 0x00#8 then m else { m with bootMapped := false } := by
  simp only [mmuWrite, hr, hk]

/-- A write meets a storage byte, the bank-select range, a boot-disable address, or an address where it does nothing (R53). -/
theorem write_kinds (p : Params) (a : Word) :
    (∃ c, BackedBy p a c) ∨ (regionOf p.map a = .bootRom0 ∨ regionOf p.map a = .rom0) ∨
      (regionOf p.map a = .io ∧ ioKindOf p a = .bootDisable) ∨ ∀ m v, mmuWrite p m a v = m := by
  rw [← isStorage_iff]
  cases hr : regionOf p.map a
  case io => cases hk : ioKindOf p a <;> simp [IsStorage, mmuWrite, hr, hk]
  all_goals simp [IsStorage, mmuWrite, hr]

/-- A read depends on the storage byte behind the address alone; or on `bank`, in ROMX; or on `boot_mapped`, under the overlay (R52). -/
theorem readByte_depends {s t : State} {b : Word} (hp : t.params = s.params)
    (hcell : ∀ c, BackedBy s.params b c → c.read t.mmu = c.read s.mmu)
    (hbank : regionOf s.params.map b = .romx → t.mmu.bank = s.mmu.bank)
    (hboot : regionOf s.params.map b = .bootRom0 → t.mmu.bootMapped = s.mmu.bootMapped) :
    readByte t b = readByte s b := by
  by_cases hb : IsStorage s.params b
  · obtain ⟨c, hb⟩ := isStorage_iff.mp hb
    rw [BackedBy.readByte_eq (hp ▸ hb), hb.readByte_eq, hcell c hb]
  · cases hr : regionOf s.params.map b
    case io => cases hk : ioKindOf s.params b <;> simp_all [IsStorage, readByte]
    all_goals simp_all [IsStorage, readByte]

/-! ### Every map: the frame of a write, reading back, repeated writes -/

/-- Settles O16: by the kind of the written address, what a read of another one depends on is kept. -/
theorem writeByteFrame : Obligations.WriteByteFrame := by
  intro s a b v
  refine ⟨rfl, rfl, fun hnot => ?_⟩
  obtain ⟨c, ha⟩ | hselect | ⟨hr, hk⟩ | hinert := write_kinds s.params a
  · have hother : ∀ d, BackedBy s.params b d → d.read (c.write s.mmu v) = d.read s.mmu := by
      intro d hb
      have hne : d ≠ c := by rintro rfl; exact hnot (ha.storeTouches hb)
      exact StorageCell.read_write_other hne s.mmu v
    have hwrite := ha.mmuWrite_eq s.mmu v
    exact readByte_depends rfl (by simpa [hwrite] using hother) (by simp [hwrite]) (by simp [hwrite])
  · have hromx : regionOf s.params.map b ≠ .romx := by
      obtain hr | hr := hselect <;> simpa [StoreTouches, hr] using hnot
    have hwrite := mmuWrite_of_bankSelect hselect s.mmu v
    exact readByte_depends rfl (by simp [hwrite]) (absurd · hromx) (by simp [hwrite])
  · have hoverlay : regionOf s.params.map b ≠ .bootRom0 := by simpa [StoreTouches, hr, hk] using hnot
    have hwrite := mmuWrite_of_bootDisable hr hk s.mmu v
    by_cases hv : v = 0x00#8
    · rw [if_pos hv] at hwrite
      exact readByte_congr (t := writeByte s a v) hwrite rfl b
    · rw [if_neg hv] at hwrite
      exact readByte_depends rfl (by simp [hwrite]) (by simp [hwrite]) (absurd · hoverlay)
  · exact readByte_congr (t := writeByte s a v) (hinert s.mmu v) rfl b

/-- Settles O17: the address has one storage byte behind it, written and then read. -/
theorem storedByteReadsBack : Obligations.StoredByteReadsBack := by
  intro s a v h
  obtain ⟨c, ha⟩ := isStorage_iff.mp h
  exact ha.readByte_writeByte_same ha v

/-- Settles O19: for each kind of address, the second write finds the MMU as the first left it. -/
theorem writesAreIdempotent : Obligations.WritesAreIdempotent := by
  intro s a v
  have hsame : mmuWrite s.params (mmuWrite s.params s.mmu a v) a v = mmuWrite s.params s.mmu a v := by
    obtain ⟨c, ha⟩ | hselect | ⟨hr, hk⟩ | hinert := write_kinds s.params a
    · simp [ha.mmuWrite_eq]
    · simp [mmuWrite_of_bankSelect hselect]
    · by_cases hv : v = 0x00#8 <;> simp [mmuWrite_of_bootDisable hr hk, hv]
    · rw [hinert]
  simp [writeByte, hsame]

/-! ### The standard map -/

/-- The row of the standard map's table that a region stands in (R51). -/
def InStandardRow (n : Nat) : Region → Prop
  | .bootRom0 => n ≤ 0x00FF
  | .rom0 => 0x0100 ≤ n ∧ n ≤ 0x3FFF
  | .romx => 0x4000 ≤ n ∧ n ≤ 0x7FFF
  | .vram => 0x8000 ≤ n ∧ n ≤ 0x9FFF
  | .extram => 0xA000 ≤ n ∧ n ≤ 0xBFFF
  | .wram => 0xC000 ≤ n ∧ n ≤ 0xDFFF
  | .echo => 0xE000 ≤ n ∧ n ≤ 0xFDFF
  | .oam => 0xFE00 ≤ n ∧ n ≤ 0xFE9F
  | .unusable => 0xFEA0 ≤ n ∧ n ≤ 0xFEFF
  | .io => 0xFF00 ≤ n ∧ n ≤ 0xFF7F
  | .hram => 0xFF80 ≤ n ∧ n ≤ 0xFFFE
  | .ie => 0xFFFF ≤ n

theorem inStandardRow_regionOf (a : Word) : InStandardRow a.toNat (regionOf MapConfig.standard a) := by
  rw [regionOf, regionRows]
  iterate 12 (rw [regionIn]; split; · simp only [MapConfig.standard, InStandardRow] at *; omega)
  simp only [MapConfig.standard, regionIn, InStandardRow] at *
  omega

/-! An address of a standard region and its index (R55, R62, R63, R65, R67). -/

theorem romxOffset_standard (bank : Byte) (a : Word) :
    romxOffset MapConfig.standard bank a = bank.toNat * 0x4000 + (a.toNat - 0x4000) := rfl

theorem wramIndex_standard (a : Word) : wramIndex MapConfig.standard a = a.toNat - 0xC000 := rfl

theorem echoIndex_standard (a : Word) : echoIndex MapConfig.standard a = a.toNat - 0xE000 := rfl

theorem ioIndex_standard (a : Word) : ioIndex MapConfig.standard a = a.toNat - 0xFF00 := rfl

theorem hramIndex_standard (a : Word) : hramIndex MapConfig.standard a = a.toNat - 0xFF80 := rfl

/-- Settles O12: by the row of the standard map that the address stands in. -/
theorem readByteByAddress : Obligations.ReadByteByAddress := by
  intro s a hmap hboot
  refine ⟨fun hkinds => by rw [ioKindOf, hkinds, ioKindIn], ?_⟩
  have hrow := inStandardRow_regionOf a
  cases hr : regionOf MapConfig.standard a <;> rw [hr] at hrow <;> simp only [InStandardRow] at hrow
  case bootRom0 =>
    simp (disch := omega) only [readByte, hmap, hr, if_pos, overlayByte]
    cases hm : s.mmu.bootMapped
    · simp
    · obtain ⟨boot, hb⟩ := Option.isSome_iff_exists.mp (hboot hm)
      simp [hb]
  case rom0 =>
    simp (disch := omega) only [readByte, hmap, hr, if_pos, if_neg]
    split <;> rfl
  case io =>
    cases hk : ioKindOf s.params a <;>
      simp (disch := omega) only [readByte, hmap, hr, hk, if_pos, if_neg, ioIndex_standard]
  all_goals
    simp (disch := omega) only [readByte, hmap, hr, if_pos, if_neg, romxOffset_standard, imageByte, wramIndex_standard,
      echoIndex_standard, hramIndex_standard]

/-- Settles O13: by the row of the standard map that the address stands in. -/
theorem writeByteByAddress : Obligations.WriteByteByAddress := by
  intro s a v hmap
  refine ⟨rfl, rfl, ?_⟩
  have hrow := inStandardRow_regionOf a
  rw [writeByte_mmu]
  cases hr : regionOf MapConfig.standard a <;> rw [hr] at hrow <;> simp only [InStandardRow] at hrow
  case io =>
    cases hk : ioKindOf s.params a <;>
      simp (disch := omega) only [mmuWrite, hmap, hr, hk, if_pos, if_neg, ioIndex_standard]
  all_goals
    simp (disch := omega) only [mmuWrite, hmap, hr, if_pos, if_neg, selectBank, remapBank, wramIndex_standard,
      echoIndex_standard, hramIndex_standard]

/-! ### The boot-disable address, words and the echo -/

theorem readByte_of_bootDisable {s : State} {a : Word} (hr : regionOf s.params.map a = .io)
    (hk : ioKindOf s.params a = .bootDisable) : readByte s a = 0xFF#8 := by
  simp only [readByte, hr, hk]

theorem readByte_of_overlay_unmapped {s : State} {a : Word} (hr : regionOf s.params.map a = .bootRom0)
    (hb : s.mmu.bootMapped = false) : readByte s a = imageByte s.params.cart a.toNat := by
  simp [readByte, hr, hb]

/-- Settles O15: 0xFF50 is in the I/O region of the standard map, and the catalog makes it the boot-disable address. -/
theorem bootUnmapIsOneShot : Obligations.BootUnmapIsOneShot := by
  intro s v w hmap hk
  have hr : regionOf s.params.map 0xFF50#16 = .io := by rw [hmap]; rfl
  have hwrite := mmuWrite_of_bootDisable hr hk
  refine ⟨readByte_of_bootDisable hr hk, by simp [writeByte, hwrite], fun hv => ?_⟩
  have hunmap : writeByte s 0xFF50#16 v = { s with mmu := { s.mmu with bootMapped := false } } := by
    simp [writeByte, hwrite, hv]
  rw [hunmap]
  refine ⟨rfl, fun a ha => ?_, ?_⟩
  · exact readByte_of_overlay_unmapped (hmap ▸ regionOf_standard_bootRom0 ha) rfl
  · by_cases hw : w = 0x00#8 <;> simp [writeByte, hwrite, hw]

/-- A byte of `wram` is behind one WRAM address of the standard map, and behind the ECHO address 0x2000 above it (R62, R63). -/
theorem BackedBy.wram_standard {p : Params} {a : Word} {i : Nat} (hmap : p.map = MapConfig.standard)
    (h : BackedBy p a (.wram i)) : a.toNat = 0xC000 + i ∨ a.toNat = 0xE000 + i := by
  cases h with
  | wram hr hi =>
    have := regionOf_wram hr
    simp only [wramIndex, hmap, MapConfig.standard] at this hi
    omega
  | echo hr hi =>
    have := regionOf_echo hr
    simp only [echoIndex, hmap, MapConfig.standard] at this hi
    omega

theorem BackedBy.ie_standard {p : Params} {a : Word} (hmap : p.map = MapConfig.standard) (h : BackedBy p a .ie) :
    a.toNat = 0xFFFF := by
  cases h with | ie hr =>
  have hrow := inStandardRow_regionOf a
  rw [← hmap, hr] at hrow
  have := a.isLt
  simp only [InStandardRow] at hrow
  omega

/-- On the standard map the two addresses of a word never share a storage byte. -/
theorem BackedBy.ne_of_succ {p : Params} {a : Word} {c d : StorageCell} (hmap : p.map = MapConfig.standard)
    (ha : BackedBy p a c) (hb : BackedBy p (a + 1#16) d) : c ≠ d := by
  rintro rfl
  obtain h | ⟨i, rfl⟩ | rfl := ha.shared hb
  · bv_omega
  · have hlow := ha.wram_standard hmap
    have hhigh := hb.wram_standard hmap
    bv_omega
  · have hlow := ha.ie_standard hmap
    have hhigh := hb.ie_standard hmap
    bv_omega

/-- A word written to two storage bytes of the standard map has its halves there: the second byte write misses the first byte. -/
theorem readByte_writeWord_standard {s : State} {a : Word} (hmap : s.params.map = MapConfig.standard)
    (ha : IsStorage s.params a) (hb : IsStorage s.params (a + 1#16)) (v : Word) :
    readByte (writeWord s a v) a = lowByte v ∧ readByte (writeWord s a v) (a + 1#16) = highByte v := by
  obtain ⟨c, ha⟩ := isStorage_iff.mp ha
  obtain ⟨d, hb⟩ := isStorage_iff.mp hb
  constructor
  · calc
      readByte (writeWord s a v) a = readByte (writeByte s a (lowByte v)) a :=
        BackedBy.readByte_writeByte_other (s := writeByte s a (lowByte v)) hb ha (ha.ne_of_succ hmap hb) _
      _ = lowByte v := ha.readByte_writeByte_same ha _
  · exact BackedBy.readByte_writeByte_same (s := writeByte s a (lowByte v)) hb hb _

/-- Settles O18: the two byte reads and byte writes of a word, and on the standard map both bytes after the word write. -/
theorem wordsAreLittleEndian : Obligations.WordsAreLittleEndian := by
  intro s a v
  refine ⟨?_, ?_, fun hmap ha hb => ?_⟩
  · rw [readWord, toNat_joinBytes]
    omega
  · rw [writeWord, lowByte_eq_setWidth, highByte_eq_setWidth]
  · obtain ⟨hlow, hhigh⟩ := readByte_writeWord_standard hmap ha hb v
    rw [readWord, hlow, hhigh]
    exact ⟨toNat_lowByte v, toNat_highByte v, joinBytes_halves v⟩

theorem regionOf_echoEnd_wram {e : Nat} {a : Word} (lo : 0xC000 ≤ a.toNat) (hi : a.toNat ≤ 0xDFFF) :
    regionOf { MapConfig.standard with echoEnd := e } a = .wram := by
  simp only [regionOf, regionRows, MapConfig.standard]
  iterate 5 rw [regionIn_skip (by omega)]
  rw [regionIn_stop (by omega)]

theorem regionOf_echoEnd_echo {e : Nat} {a : Word} (lo : 0xE000 ≤ a.toNat) (hi : a.toNat ≤ e) :
    regionOf { MapConfig.standard with echoEnd := e } a = .echo := by
  simp only [regionOf, regionRows, MapConfig.standard]
  iterate 6 rw [regionIn_skip (by omega)]
  rw [regionIn_stop hi]

theorem regionOf_echoEnd_unusable {e : Nat} {a : Word} (lo : 0xE000 ≤ a.toNat) (he : e < a.toNat)
    (hi : a.toNat ≤ 0xFDFF) : regionOf { MapConfig.standard with echoEnd := e } a = .unusable := by
  simp only [regionOf, regionRows, MapConfig.standard]
  iterate 7 rw [regionIn_skip (by omega)]
  rw [regionIn_stop hi]

/-- Settles O14: up to `echo_end` the two addresses have one storage byte behind them; above it nothing is stored. -/
theorem echoAliasesWorkingRam : Obligations.EchoAliasesWorkingRam := by
  intro s e a v hmap lo hi
  constructor
  · intro he
    have hbelow : (a - 0x2000#16).toNat = a.toNat - 0x2000 := by bv_omega
    have hecho : BackedBy s.params a (.wram (a.toNat - 0xE000)) :=
      .echo (hmap ▸ regionOf_echoEnd_echo lo he) (by rw [hmap]; rfl)
    have hwram : BackedBy s.params (a - 0x2000#16) (.wram (a.toNat - 0xE000)) :=
      .wram (hmap ▸ regionOf_echoEnd_wram (by omega) (by omega)) (by
        rw [hmap, wramIndex, hbelow]
        simp only [MapConfig.standard]
        omega)
    refine ⟨?_, ?_, hecho.readByte_writeByte_same hecho v, hecho.readByte_writeByte_same hwram v⟩
    · rw [hecho.readByte_eq, hwram.readByte_eq]
    · rw [writeByte, writeByte, hecho.mmuWrite_eq, hwram.mmuWrite_eq]
  · intro he
    have hr : regionOf s.params.map a = .unusable := hmap ▸ regionOf_echoEnd_unusable lo he hi
    simp [readByte, writeByte, mmuWrite, hr]

end Sys2Proof.Machine
end

section
/-! PROOF. Decoding and encoding (30_encoding R90 to R107): the two undo each other, any three bytes are one instruction whose length the first
byte fixes, and every opcode by its fields; then whether a step answers, and what byte 0xCB alone executes (R104, R110; 45_misc R271). -/

namespace Sys2Proof

open Sys2Proof.Machine

/-! ### The encoding decodes to its instruction -/

/-- The bytes of a word immediate, low byte first, join to the word again (R98). -/
theorem decode_of_wordHalves {op : Byte} {mk : Word → Instr} (h : primaryEntry op = .word mk) (w : Word)
    (rest : List Byte) : decode ([op, lowByte w, highByte w] ++ rest) = .ok (mk w, rest) := by
  simpa using decode_of_word h (lowByte w) (highByte w) rest

/-- Settles O1: a word immediate is its two halves joined again; in every other format the decoder hands on the bytes as they stand. -/
theorem decodeOfEncode : Obligations.DecodeOfEncode := by
  intro i rest hi
  cases i
  case prefixCb => exact absurd hi (by decide)
  case ldBcN16 w | ldDeN16 w | ldHlN16 w | ldSpN16 w | ldIndA16Sp w | ldIndA16A w | ldAIndA16 w | jpA16 w | jpNzA16 w |
      jpZA16 w | jpNcA16 w | jpCA16 w | callA16 w | callNzA16 w | callZA16 w | callNcA16 w | callCA16 w =>
    exact decode_of_wordHalves rfl w rest
  all_goals rfl

/-! ### What is decoded encodes to the bytes it was read from -/

/-- Settles O2: the cell of the first byte stands where the encoder puts its instruction; 0xCB alone is `prefixCb`. -/
theorem encodeOfDecode : Obligations.EncodeOfDecode := by
  intro bs i rest h
  unfold decode at h
  split at h
  next => cases h
  next op tail =>
    have henc := primaryEntry_encodes op
    split at h <;> cases h <;> rw [‹primaryEntry op = _›] at henc
    next => rw [henc.1]; rfl
    next b1 _ => rw [(henc b1).1]; rfl
    next b1 b2 _ => rw [(henc (joinBytes b2 b1)).1, lowByte_joinBytes, highByte_joinBytes]; rfl
    next cb _ => rw [show op = 0xCB#8 from henc, (encode_cbInstr cb).1]; rfl
    next => rw [show op = 0xCB#8 from henc]; rfl

/-! ### Three bytes are enough -/

/-- The bytes that an opcode entry takes, its opcode byte included (R90, R104). -/
def OpcodeEntry.size : OpcodeEntry → Nat
  | .op _ => 1
  | .byte _ => 2
  | .word _ => 3
  | .prefixed => 2

theorem OpcodeEntry.size_inRange (e : OpcodeEntry) : 1 ≤ e.size ∧ e.size ≤ 3 := by
  cases e <;> simp [size]

theorem encode_decode3 (op b1 b2 : Byte) : encode (decode3 op b1 b2) = [op, b1, b2].take (primaryEntry op).size := by
  have henc := primaryEntry_encodes op
  unfold decode3
  cases hentry : primaryEntry op <;> rw [hentry] at henc
  case op i => exact henc.1
  case byte mk => exact (henc b1).1
  case word mk => simpa [OpcodeEntry.size] using (henc (joinBytes b2 b1)).1
  case prefixed =>
    rw [show op = 0xCB#8 from henc]
    exact (encode_cbInstr b1).1

theorem length_encode_decode3 (op b1 b2 : Byte) : (encode (decode3 op b1 b2)).length = (primaryEntry op).size := by
  rw [encode_decode3, List.length_take]
  exact Nat.min_eq_left (primaryEntry op).size_inRange.2

theorem decode_of_three (op b1 b2 : Byte) (tail : List Byte) :
    decode (op :: b1 :: b2 :: tail) =
      .ok (decode3 op b1 b2, (op :: b1 :: b2 :: tail).drop (primaryEntry op).size) := by
  unfold decode3
  cases hentry : primaryEntry op
  case op i => exact decode_of_op hentry _
  case byte mk => exact decode_of_byte hentry _ _
  case word mk => exact decode_of_word hentry _ _ _
  case prefixed => exact decode_of_prefixed hentry _ _

/-- Settles O3: the entry of the first byte fixes how many of the three bytes are read. -/
theorem decodeIsTotal : Obligations.DecodeIsTotal := by
  intro op b1 b2 tail
  refine ⟨⟨decode3 op b1 b2, ?_, rfl, decode3_wellFormed op b1 b2, ?_⟩, fun c1 c2 => ?_, ?_⟩
  · rw [length_encode_decode3]
    exact decode_of_three op b1 b2 tail
  · rw [length_encode_decode3]
    exact (primaryEntry op).size_inRange
  · rw [length_encode_decode3, length_encode_decode3]
  · rintro rfl
    exact length_encode_decode3 0xCB#8 b1 b2

/-! ### The primary opcodes by their fields -/

/-- Settles O5: each opcode of the two blocks is a cell of the primary map, found by the values of its two fields. -/
theorem loadAndAluBlocksByField : Obligations.LoadAndAluBlocksByField := by
  intro dst r op x b1 b2
  refine ⟨?registers, ?fromHl, ?toHl, rfl, ?alu⟩
  case registers => cases dst <;> cases r <;> rfl
  case fromHl => cases dst <;> rfl
  case toHl => cases r <;> rfl
  case alu => cases op <;> rcases x with (_ | _ | _ | _ | _ | _ | _) | _ <;> rfl

/-- Settles O6: by the values of the one field that an opcode has; the four lists are the opcodes without a field. -/
theorem outerBlocksByField : Obligations.OuterBlocksByField := by
  intro b1 b2
  refine ⟨fun rr => ?pair, fun q => ?stackPair, fun cc => ?condition, fun x => ?operand, fun dst => ?register,
    fun op => ?alu, fun t => ?restart, rfl, rfl, rfl, rfl⟩
  case pair => cases rr <;> exact ⟨rfl, rfl, rfl, rfl⟩
  case stackPair => cases q <;> exact ⟨rfl, rfl⟩
  case condition => cases cc <;> exact ⟨rfl, rfl, rfl, rfl⟩
  case operand => rcases x with (_ | _ | _ | _ | _ | _ | _) | _ <;> exact ⟨rfl, rfl⟩
  case register => cases dst <;> rfl
  case alu => cases op <;> rfl
  case restart => fin_cases t <;> rfl

/-- Settles O4: each first byte is looked up in the primary map, and a byte after 0xCB in the CB map. -/
theorem knownWordsDecode : Obligations.KnownWordsDecode :=
  ⟨rfl, rfl, rfl, rfl, rfl, rfl, rfl, rfl, rfl, rfl, rfl, rfl⟩

/-! ### The prefixed opcodes by their fields -/

theorem decode3_prefixed (cb b2 : Byte) : decode3 0xCB#8 cb b2 = cbInstr cb := rfl

theorem fieldOfLoc_lt (x : Loc) : fieldOfLoc x < 8 := by
  rcases x with (_ | _ | _ | _ | _ | _ | _) | _ <;> decide

theorem locOfField_fieldOfLoc (x : Loc) : locOfField ⟨fieldOfLoc x, fieldOfLoc_lt x⟩ = x := by
  rcases x with (_ | _ | _ | _ | _ | _ | _) | _ <;> rfl

theorem fieldOfShift_lt (op : ShiftOp) : fieldOfShift op < 8 := by
  cases op <;> decide

theorem shiftOfField_fieldOfShift (op : ShiftOp) : shiftOfField ⟨fieldOfShift op, fieldOfShift_lt op⟩ = op := by
  cases op <;> rfl

/-- A 3-bit field of an opcode as a number (R91). -/
theorem field3_ofNat {n : Nat} (hn : n < 256) (lowest : Nat) :
    (field3 (BitVec.ofNat 8 n) lowest).val = n / 2 ^ lowest % 8 := by
  rw [field3, Fin.val_ofNat, BitVec.toNat_ofNat, Nat.mod_eq_of_lt hn, Nat.shiftRight_eq_div_pow]

/-- The fields of a CB opcode written as 64x + 8y + z, z being the field of an operand (R91, R92, R104). -/
theorem cbFields_ofNat {n x y : Nat} {z : Loc} (hn : n = 64 * x + 8 * y + fieldOfLoc z) (hx : x < 4) (hy : y < 8) :
    (BitVec.ofNat 8 n).toNat >>> 6 = x ∧ field3 (BitVec.ofNat 8 n) 3 = ⟨y, hy⟩ ∧
    locOfField (field3 (BitVec.ofNat 8 n) 0) = z := by
  have hz := fieldOfLoc_lt z
  have hbyte : n < 256 := by omega
  have hfieldX : (BitVec.ofNat 8 n).toNat >>> 6 = x := by
    rw [BitVec.toNat_ofNat, Nat.shiftRight_eq_div_pow]
    omega
  have hfieldY : field3 (BitVec.ofNat 8 n) 3 = ⟨y, hy⟩ := Fin.ext ((field3_ofNat hbyte 3).trans (by dsimp only; omega))
  have hfieldZ : field3 (BitVec.ofNat 8 n) 0 = ⟨fieldOfLoc z, hz⟩ :=
    Fin.ext ((field3_ofNat hbyte 0).trans (by dsimp only; omega))
  exact ⟨hfieldX, hfieldY, hfieldZ ▸ locOfField_fieldOfLoc z⟩

/-- Settles O7: each opcode is written as its three fields, and reading them back gives the operation and the operand. -/
theorem cbMapByField : Obligations.CbMapByField := by
  intro op b x b2
  simp only [decode3_prefixed, cbInstr_byField]
  refine ⟨?shift, ?bit, ?res, ?set⟩
  case shift =>
    have hfields := cbFields_ofNat (n := 8 * fieldOfShift op + fieldOfLoc x) (x := 0) (z := x) (by omega) (by decide)
      (fieldOfShift_lt op)
    simp only [hfields, shiftOfField_fieldOfShift]
  case bit => simp only [cbFields_ofNat (n := 0x40 + 8 * b.val + fieldOfLoc x) (x := 1) rfl (by decide) b.isLt]
  case res => simp only [cbFields_ofNat (n := 0x80 + 8 * b.val + fieldOfLoc x) (x := 2) rfl (by decide) b.isLt]
  case set => simp only [cbFields_ofNat (n := 0xC0 + 8 * b.val + fieldOfLoc x) (x := 3) rfl (by decide) b.isLt]

/-! ### Whether a step answers, and what byte 0xCB alone executes -/

/-- Settles O9: while RUNNING the fetched instruction answers what its shared operation makes of the state. -/
theorem stepRefusedExactlyWhileHalted : Obligations.StepRefusedExactlyWhileHalted := by
  intro s
  constructor
  · intro hhalted
    simp [step, hhalted]
  · intro hrun
    obtain ⟨t, hexec, -⟩ := exec_runs (fetchInstr s) s
    exact ⟨t, step_eq_next_iff.mpr ⟨hrun, hexec⟩⟩

/-- The CB instruction of a byte runs `executeCb` of the byte, both going by its field x (R104, R250). -/
theorem exec_cbInstr (cb : Byte) (s : State) : exec (cbInstr cb) s = .next (executeCb cb s) := by
  rw [cbInstr_byField, executeCb]
  generalize cb.toNat >>> 6 = x
  obtain _ | _ | _ | x := x
  · exact exec_shift _ _ s
  · exact exec_bit _ _ s
  · exact exec_res _ _ s
  · exact exec_set _ _ s

/-- Settles O10: `prefixCb` runs `executeCb` of the byte after it, as that byte's CB instruction does. -/
theorem prefixRunsCbInstruction : Obligations.PrefixRunsCbInstruction :=
  fun s => ⟨_, rfl, exec_cbInstr (readByte s (s.cpu.pc + 1#16)) s⟩

end Sys2Proof
end

section
/-! PROOF. Loads, stores, the stack, calls and returns (10_state R20, R21; 40_loads R121 to R147; 43_control R226 to R231): the frame of a state that
differs in its MMU by one or two byte writes or not at all; then what a register or pair written, a byte stored, a word pushed and a word popped
leave, once for all the instructions that run them. -/

namespace Sys2Proof.Machine

/-! ### The frame of memory, from the MMU alone -/

theorem KeepsMemory.of_mmu {s t : State} (hm : t.mmu = s.mmu) (hp : t.params = s.params) : KeepsMemory s t :=
  ⟨hm, hp, readByte_congr hm hp⟩

/-- A state whose MMU is as after one byte write has the frame of that write. -/
theorem StoresByte.of_mmu {s t : State} {a : Word} {v : Byte} (hm : t.mmu = mmuWrite s.params s.mmu a v)
    (hp : t.params = s.params) : StoresByte s t a v := by
  refine ⟨hm, hp, fun b hb => ?_⟩
  obtain ⟨-, -, hframe⟩ := writeByteFrame s a b v
  exact (readByte_congr (s := writeByte s a v) hm hp b).trans (hframe hb)

/-- A state whose MMU is as after a word write has the frames of its two byte writes. -/
theorem StoresWord.of_mmu {s t : State} {a v : Word} (hm : t.mmu = (writeWord s a v).mmu)
    (hp : t.params = s.params) : StoresWord s t a v := by
  refine ⟨?_, hp, fun b hlow hhigh => ?_⟩
  · rw [hm, writeWord_mmu, lowByte_eq_setWidth, highByte_eq_setWidth]
  · obtain ⟨-, -, hframeLow⟩ := writeByteFrame s a b (lowByte v)
    obtain ⟨-, -, hframeHigh⟩ := writeByteFrame (writeByte s a (lowByte v)) (a + 1#16) b (highByte v)
    calc readByte t b
        = readByte (writeWord s a v) b := readByte_congr hm hp b
      _ = readByte (writeByte s a (lowByte v)) b := hframeHigh hhigh
      _ = readByte s b := hframeLow hlow

/-! ### Loads into a register -/

/-- The frame of every load into one register (R121 to R123). -/
theorem setReg_advance_spec (r : Reg8) (v : Byte) (n : Nat) (s : State) :
    getReg r (setReg r v (advance n s)) = v ∧ KeepsAllBut [r] s (setReg r v (advance n s)) ∧
      KeepsFlags s (setReg r v (advance n s)) ∧ (setReg r v (advance n s)).cpu.pc = s.cpu.pc + BitVec.ofNat 16 n := by
  have hregs : KeepsRegs [r] s (setReg r v (advance n s)) := by
    intro q hq
    rw [getReg_setReg_other (List.ne_of_not_mem_cons hq), getReg_advance]
  refine ⟨by simp, ⟨hregs, ?_, ?_, .of_mmu (by simp) (by simp)⟩, ?_, by simp⟩
  · simp [KeepsSp]
  · simp [KeepsControl]
  · simp [KeepsFlags]

/-- Settles O30: each form writes one register, from a value of the old state. -/
theorem loadRegisterForms : Obligations.LoadRegisterForms := fun dst r n s =>
  ⟨⟨_, exec_ldReg dst r s, setReg_advance_spec dst _ 1 s⟩, ⟨_, exec_ldRegN8 dst n s, setReg_advance_spec dst n 2 s⟩,
    ⟨_, exec_ldRegIndHl dst s, setReg_advance_spec dst _ 1 s⟩⟩

/-- The frame of every load into A from an address. -/
theorem loadA_spec (len : Nat) (a : Word) (s : State) :
    KeepsMemory s (loadA len a s) ∧
      (loadA len a s).cpu = { s.cpu with a := readByte s a, pc := s.cpu.pc + BitVec.ofNat 16 len } :=
  ⟨.of_mmu rfl rfl, rfl⟩

/-- Settles O32: each form is a load into A from its own address. -/
theorem loadAccumulatorForms : Obligations.LoadAccumulatorForms := fun s a n =>
  ⟨⟨_, rfl, loadA_spec 1 (regBC s) s⟩, ⟨_, rfl, loadA_spec 1 (regDE s) s⟩, ⟨_, rfl, loadA_spec 3 a s⟩,
    ⟨_, rfl, loadA_spec 2 (ioPageAddress n) s⟩, ⟨_, rfl, loadA_spec 1 (ioPageAddress s.cpu.c) s⟩⟩

/-! ### Stores of a byte -/

/-- The frame of every instruction that stores one byte and writes no register. -/
theorem writeByte_advance_spec (len : Nat) (a : Word) (v : Byte) (s : State) :
    StoresByte s (writeByte (advance len s) a v) a v ∧
      (writeByte (advance len s) a v).cpu = { s.cpu with pc := s.cpu.pc + BitVec.ofNat 16 len } :=
  ⟨.of_mmu rfl rfl, rfl⟩

/-- Settles O31: both forms store one byte at HL. -/
theorem storeAtHlForms : Obligations.StoreAtHlForms := fun r n s =>
  ⟨⟨_, exec_ldIndHlReg r s, writeByte_advance_spec 1 (regHL s) (getReg r s) s⟩,
    ⟨_, rfl, writeByte_advance_spec 2 (regHL s) n s⟩⟩

/-- Settles O33: each form stores A at its own address. -/
theorem storeAccumulatorForms : Obligations.StoreAccumulatorForms := fun s a n =>
  ⟨⟨_, rfl, writeByte_advance_spec 1 (regBC s) s.cpu.a s⟩, ⟨_, rfl, writeByte_advance_spec 1 (regDE s) s.cpu.a s⟩,
    ⟨_, rfl, writeByte_advance_spec 3 a s.cpu.a s⟩, ⟨_, rfl, writeByte_advance_spec 2 (ioPageAddress n) s.cpu.a s⟩,
    ⟨_, rfl, writeByte_advance_spec 1 (ioPageAddress s.cpu.c) s.cpu.a s⟩⟩

/-! ### The forms that step HL -/

@[simp] theorem regHL_setHL (v : Word) (s : State) : regHL (setHL v s) = v := joinBytes_halves v

/-- Writing HL keeps every register but H and L. -/
theorem getReg_setHL_other {q : Reg8} (hh : q ≠ .h) (hl : q ≠ .l) (v : Word) (s : State) :
    getReg q (setHL v s) = getReg q s := by
  rw [getReg_setHL, if_neg hh, if_neg hl]

/-- The model steps down by adding 0xFFFF, which is -1 modulo 2^16 (R131, R133, R203). -/
theorem add_allOnes (w : Word) : w + 0xFFFF#16 = w - 1#16 := by
  bv_omega

/-- LD A,(HL+) and LD A,(HL-), for any step of HL (R130, R131). -/
theorem loadAStep_spec (delta : Word) (s : State) :
    getReg .a (loadAStep delta s) = readByte s (regHL s) ∧ regHL (loadAStep delta s) = regHL s + delta ∧
      KeepsAllBut [.a, .h, .l] s (loadAStep delta s) ∧ KeepsFlags s (loadAStep delta s) ∧
      (loadAStep delta s).cpu.pc = s.cpu.pc + 1#16 := by
  have hregs : KeepsRegs [.a, .h, .l] s (loadAStep delta s) := by
    intro q hq
    simp only [List.mem_cons, List.not_mem_nil, or_false, not_or] at hq
    obtain ⟨ha, hh, hl⟩ := hq
    rw [loadAStep, getReg_setHL_other hh hl, loadA, getReg_setReg_other ha, getReg_advance]
  exact ⟨rfl, regHL_setHL _ _, ⟨hregs, rfl, ⟨rfl, rfl⟩, .of_mmu rfl rfl⟩, rfl, rfl⟩

/-- LD (HL+),A and LD (HL-),A, for any step of HL (R132, R133). -/
theorem storeAStep_spec (delta : Word) (s : State) :
    StoresByte s (storeAStep delta s) (regHL s) s.cpu.a ∧ regHL (storeAStep delta s) = regHL s + delta ∧
      KeepsRegs [.h, .l] s (storeAStep delta s) ∧ KeepsSp s (storeAStep delta s) ∧
      KeepsControl s (storeAStep delta s) ∧ KeepsFlags s (storeAStep delta s) ∧
      (storeAStep delta s).cpu.pc = s.cpu.pc + 1#16 := by
  have hregs : KeepsRegs [.h, .l] s (storeAStep delta s) := by
    intro q hq
    simp only [List.mem_cons, List.not_mem_nil, or_false, not_or] at hq
    obtain ⟨hh, hl⟩ := hq
    rw [storeAStep, getReg_setHL_other hh hl, storeA, getReg_writeByte, getReg_advance]
  exact ⟨.of_mmu rfl rfl, regHL_setHL _ _, hregs, rfl, ⟨rfl, rfl⟩, rfl, rfl⟩

/-- Settles O34: a load or a store at the old HL, with HL stepped by 1 or by 0xFFFF, which is -1. -/
theorem autoStepForms : Obligations.AutoStepForms := by
  intro s
  rw [← add_allOnes (regHL s)]
  exact ⟨⟨_, rfl, loadAStep_spec 1#16 s⟩, ⟨_, rfl, loadAStep_spec 0xFFFF#16 s⟩, ⟨_, rfl, storeAStep_spec 1#16 s⟩,
    ⟨_, rfl, storeAStep_spec 0xFFFF#16 s⟩⟩

/-! ### Register pairs -/

@[simp] theorem getPair_setPair_same (rr : Reg16) (v : Word) (s : State) : getPair rr (setPair rr v s) = v := by
  cases rr with
  | sp => rfl
  | bc | de | hl => exact joinBytes_halves v

/-- Writing a pair keeps every 8-bit register outside it (R21). -/
theorem getReg_setPair_other {rr : Reg16} {q : Reg8} (h : q ∉ halvesOf rr) (v : Word) (s : State) :
    getReg q (setPair rr v s) = getReg q s := by
  cases rr with
  | sp => exact getReg_setPair_sp q v s
  | hl =>
    have hne : q ≠ .h ∧ q ≠ .l := by simpa [halvesOf, Reg16.pick] using h
    exact getReg_setHL_other hne.1 hne.2 v s
  | bc =>
    cases q
    case b | c => exact absurd h (by decide)
    all_goals rfl
  | de =>
    cases q
    case d | e => exact absurd h (by decide)
    all_goals rfl

/-- The frame of every instruction that writes one pair. -/
theorem setPair_advance_spec (rr : Reg16) (v : Word) (n : Nat) (s : State) :
    getPair rr (setPair rr v (advance n s)) = v ∧ KeepsRegs (halvesOf rr) s (setPair rr v (advance n s)) ∧
      (rr ≠ .sp → KeepsSp s (setPair rr v (advance n s))) ∧ KeepsControl s (setPair rr v (advance n s)) ∧
      KeepsMemory s (setPair rr v (advance n s)) ∧ KeepsFlags s (setPair rr v (advance n s)) ∧
      (setPair rr v (advance n s)).cpu.pc = s.cpu.pc + BitVec.ofNat 16 n := by
  have hregs : KeepsRegs (halvesOf rr) s (setPair rr v (advance n s)) := by
    intro q hq
    rw [getReg_setPair_other hq, getReg_advance]
  refine ⟨by simp, hregs, fun hrr => setPair_sp_of_ne hrr v _, ?_, .of_mmu (by simp) (by simp), ?_, by simp⟩
  · simp [KeepsControl]
  · simp [KeepsFlags]

/-- Settles O35: LD rr,n16 writes the one pair, and LD SP,HL is SP written with the old HL. -/
theorem loadPairForms : Obligations.LoadPairForms := fun rr n s =>
  ⟨⟨_, exec_ldPairN16 rr n s, setPair_advance_spec rr n 3 s⟩, ⟨_, rfl, .of_mmu rfl rfl, rfl⟩⟩

/-! ### Words stored and pushed -/

/-- Settles O36: one word write at the address, of the old SP. -/
theorem storeSpWord : Obligations.StoreSpWord := fun _ _ => ⟨_, rfl, .of_mmu rfl rfl, rfl⟩

/-- The frame of a push by an instruction of `n` bytes (R143). -/
theorem push16_advance_spec (v : Word) (n : Nat) (s : State) :
    StoresWord s (push16 v (advance n s)) (s.cpu.sp - 2#16) v ∧
      (push16 v (advance n s)).cpu = { s.cpu with sp := s.cpu.sp - 2#16, pc := s.cpu.pc + BitVec.ofNat 16 n } :=
  ⟨.of_mmu rfl rfl, rfl⟩

theorem getStackPair_eq_pushedWord (q : StackPair) (s : State) : getStackPair q s = pushedWord q s := by
  cases q <;> rfl

/-- Settles O37: the pair is pushed by an instruction of one byte. -/
theorem pushStoresPair : Obligations.PushStoresPair := by
  intro q s
  rw [← getStackPair_eq_pushedWord]
  exact ⟨_, exec_push q s, push16_advance_spec _ 1 s⟩

/-- The frame of a push by an instruction of `n` bytes that then jumps (R226, R227, R231). -/
theorem jumpTo_push16_advance_spec (a v : Word) (n : Nat) (s : State) :
    StoresWord s (jumpTo a (push16 v (advance n s))) (s.cpu.sp - 2#16) v ∧
      (jumpTo a (push16 v (advance n s))).cpu = { s.cpu with sp := s.cpu.sp - 2#16, pc := a } :=
  ⟨.of_mmu rfl rfl, rfl⟩

/-- Settles O53: a taken call and a restart push and jump, by whether the condition holds. -/
theorem callsPushReturnAddress : Obligations.CallsPushReturnAddress := by
  intro cc k a s
  refine ⟨⟨_, rfl, jumpTo_push16_advance_spec a _ 3 s⟩, fun htaken => ?_, fun hnot => ?_,
    ⟨_, exec_rst k s, jumpTo_push16_advance_spec _ _ 1 s⟩⟩
  · rw [exec_callCond, condHolds_eq_condTrue, htaken]
    exact ⟨_, rfl, jumpTo_push16_advance_spec a _ 3 s⟩
  · rw [exec_callCond, condHolds_eq_condTrue, hnot]
    rfl

/-! ### Words popped -/

@[simp] theorem lowByte_popValue (s : State) : lowByte (popValue s) = readByte s s.cpu.sp := lowByte_joinBytes _ _

@[simp] theorem highByte_popValue (s : State) : highByte (popValue s) = readByte s (s.cpu.sp + 1#16) :=
  highByte_joinBytes _ _

theorem keepsMemory_popPair (q : StackPair) (s : State) : KeepsMemory s (popPair q s) :=
  .of_mmu (by simp [popPair]) (by simp [popPair])

/-- Settles O38: the two bytes of the popped word are those at SP and above it. -/
theorem popLoadsPair : Obligations.PopLoadsPair := by
  intro s
  rw [← lowByte_popValue, ← highByte_popValue]
  exact ⟨⟨_, exec_pop .bc s, keepsMemory_popPair .bc s, rfl⟩, ⟨_, exec_pop .de s, keepsMemory_popPair .de s, rfl⟩,
    ⟨_, exec_pop .hl s, keepsMemory_popPair .hl s, rfl⟩⟩

/-- F after POP AF is the popped low byte with its low nibble cleared (R147). -/
theorem popPair_af_f (s : State) : (popPair .af s).cpu.f = readByte s s.cpu.sp &&& 0xF0#8 := by
  rw [← lowByte_popValue]
  rfl

/-- Clearing the low nibble keeps the four flag bits. -/
theorem clearLowNibble_spec (v : Byte) :
    (v &&& 0xF0#8).getLsbD 7 = v.getLsbD 7 ∧ (v &&& 0xF0#8).getLsbD 6 = v.getLsbD 6 ∧
    (v &&& 0xF0#8).getLsbD 5 = v.getLsbD 5 ∧ (v &&& 0xF0#8).getLsbD 4 = v.getLsbD 4 ∧
    v &&& 0xF0#8 &&& 0x0F#8 = 0x00#8 := by
  simp [BitVec.and_assoc]

/-- Settles O39: the flags are bits of the popped low byte, whose low nibble is cleared. -/
theorem popAfMasksFlags : Obligations.PopAfMasksFlags := by
  intro s
  obtain ⟨hz, hn, hh, hc, hlow⟩ := clearLowNibble_spec (readByte s s.cpu.sp)
  rw [← popPair_af_f] at hz hn hh hc hlow
  refine ⟨_, exec_pop .af s, ?_, hz, hn, hh, hc, hlow, keepsMemory_popPair .af s⟩
  rw [← highByte_popValue]
  rfl

/-- Settles O54: a taken return jumps to the popped word; a return not taken is PC past the one byte. -/
theorem returnsPopPc : Obligations.ReturnsPopPc := by
  intro cc s
  refine ⟨rfl, rfl, ?_⟩
  rw [exec_retCond, condHolds_eq_condTrue]
  cases condTrue cc s <;> rfl

end Sys2Proof.Machine
end

section
/-! PROOF. The 8-bit ALU (41_alu8 R160 to R185): the frame of an instruction that writes the flags and one register, one byte of memory or nothing
else; then the result and the flags of each primitive on numbers, DAA on BCD digits, and the rotates. -/

namespace Sys2Proof.Machine

/-! ### Operations that write the flags -/

/-- Writing the flags of a state that kept F gives those flags, with the old F[3:0]. -/
theorem flagsBecome_setFlags {s t : State} (hf : KeepsFlags s t) (z n h c : Bool) :
    FlagsBecome s (setFlags z n h c t) z n h c := by
  refine ⟨flagZ_setFlags .., flagN_setFlags .., flagH_setFlags .., flagC_setFlags .., ?_⟩
  rw [setFlags_f, lowNibble_withFlags, hf]

/-- F is outside the frame that `KeepsAllBut` speaks of. -/
theorem keepsAllBut_setFlags {written : List Reg8} {s t : State} (ht : KeepsAllBut written s t) (z n h c : Bool) :
    KeepsAllBut written s (setFlags z n h c t) := by
  obtain ⟨hregs, hsp, hcontrol, hmmu, hparams, -⟩ := ht
  exact ⟨fun q hq => (getReg_setFlags q z n h c t).trans (hregs q hq), hsp, hcontrol, .of_mmu hmmu hparams⟩

/-- The frame of an instruction of `len` bytes that writes the flags alone. -/
theorem setFlags_advance_spec (written : List Reg8) (len : Nat) (s : State) (z n h c : Bool) :
    FlagsBecome s (setFlags z n h c (advance len s)) z n h c ∧
      KeepsAllBut written s (setFlags z n h c (advance len s)) ∧
      (setFlags z n h c (advance len s)).cpu.pc = s.cpu.pc + BitVec.ofNat 16 len := by
  have hkeeps : KeepsAllBut written s (advance len s) :=
    ⟨fun q _ => getReg_advance q len s, rfl, ⟨rfl, rfl⟩, .of_mmu rfl rfl⟩
  exact ⟨flagsBecome_setFlags rfl .., keepsAllBut_setFlags hkeeps .., rfl⟩

/-- The frame of an instruction of `len` bytes that writes the flags and one register, whose new value is the number `k`. -/
theorem setFlags_setReg_advance_spec {v : Byte} {k : Nat} (hv : v.toNat = k) (r : Reg8) (len : Nat) (s : State)
    (z n h c : Bool) :
    (getReg r (setFlags z n h c (setReg r v (advance len s)))).toNat = k ∧
      FlagsBecome s (setFlags z n h c (setReg r v (advance len s))) z n h c ∧
      KeepsAllBut [r] s (setFlags z n h c (setReg r v (advance len s))) ∧
      (setFlags z n h c (setReg r v (advance len s))).cpu.pc = s.cpu.pc + BitVec.ofNat 16 len := by
  obtain ⟨hvalue, hkeeps, hflags, hpc⟩ := setReg_advance_spec r v len s
  exact ⟨by rw [getReg_setFlags, hvalue, hv], flagsBecome_setFlags hflags .., keepsAllBut_setFlags hkeeps .., hpc⟩

/-- The frame of an instruction of `len` bytes that stores one byte and writes the flags. -/
theorem setFlags_writeByte_advance_spec (len : Nat) (a : Word) (v : Byte) (s : State) (z n h c : Bool) :
    StoresByte s (setFlags z n h c (writeByte (advance len s) a v)) a v ∧
      FlagsBecome s (setFlags z n h c (writeByte (advance len s) a v)) z n h c ∧
      KeepsRegs [] s (setFlags z n h c (writeByte (advance len s) a v)) ∧
      KeepsSp s (setFlags z n h c (writeByte (advance len s) a v)) ∧
      KeepsControl s (setFlags z n h c (writeByte (advance len s) a v)) ∧
      (setFlags z n h c (writeByte (advance len s) a v)).cpu.pc = s.cpu.pc + BitVec.ofNat 16 len := by
  refine ⟨.of_mmu rfl rfl, flagsBecome_setFlags rfl .., fun q _ => ?_, rfl, ⟨rfl, rfl⟩, rfl⟩
  rw [getReg_setFlags, getReg_writeByte, getReg_advance]

theorem decide_eq_zero (v : Byte) : decide (v = 0#8) = decide (v.toNat = 0) :=
  decide_eq_decide.mpr BitVec.toNat_inj.symm

/-! ### ADD, ADC, SUB, SBC, CP, AND, XOR and OR -/

/-- The primitive's result is the number `r`, and its flags are these. -/
def AluResult.Gives (x : AluResult) (r : Nat) (n h c : Bool) : Prop := x.r.toNat = r ∧ x.n = n ∧ x.h = h ∧ x.c = c

/-- R160 on numbers. -/
theorem add8_gives (a b : Byte) (cin : Bool) :
    (add8 a b cin).Gives ((a.toNat + b.toNat + cin.toNat) % 256) false
      (decide (a.toNat % 16 + b.toNat % 16 + cin.toNat > 15)) (decide (a.toNat + b.toNat + cin.toNat > 255)) :=
  ⟨rfl, rfl, rfl, rfl⟩

/-- R161 on numbers: a difference is negative exactly when a < b + cin. -/
theorem sub8_gives (a b : Byte) (cin : Bool) :
    (sub8 a b cin).Gives ((a.toNat + 512 - b.toNat - cin.toNat) % 256) true
      (decide (a.toNat % 16 < b.toNat % 16 + cin.toNat)) (decide (a.toNat < b.toNat + cin.toNat)) := by
  have := cin.toNat_le
  refine ⟨?_, rfl, decide_eq_decide.mpr ?_, decide_eq_decide.mpr ?_⟩
  · rw [sub8, BitVec.toNat_ofInt]
    omega
  · omega
  · omega

theorem sub8_gives_noCarry (a b : Byte) :
    (sub8 a b false).Gives ((a.toNat + 256 - b.toNat) % 256) true
      (decide (a.toNat % 16 < b.toNat % 16)) (decide (a.toNat < b.toNat)) := by
  obtain ⟨hr, hflags⟩ := sub8_gives a b false
  refine ⟨?_, hflags⟩
  rw [hr, Bool.toNat_false]
  omega

/-- An ALU instruction leaves what its primitive gives; CP alone does not write it to A (R165 to R173). -/
theorem aluOnA_leaves {op : AluOp} {v : Byte} {s : State} {r : Nat} {n h c : Bool}
    (hx : (aluPrimitive op s.cpu.a v (flagC s)).Gives r n h c) (len : Nat) :
    AluLeaves s (aluOnA op len v s) len (decide (op ≠ .cp)) r n h c := by
  obtain ⟨hr, rfl, rfl, rfl⟩ := hx
  rw [aluOnA, decide_eq_zero, hr]
  cases op
  case cp => exact ⟨rfl, setFlags_advance_spec [.a] len s ..⟩
  all_goals exact setFlags_setReg_advance_spec hr .a len s ..

/-- Every operand form runs the operation on the operand's value, so a fact of the operation is a fact of all forms (R165). -/
theorem ofBothForms_of_aluOnA {op : AluOp} {leaves : State → State → Nat → Byte → Prop}
    (h : ∀ s len v, leaves s (aluOnA op len v s) len v) : OfBothForms op leaves := fun s =>
  ⟨fun x => ⟨_, exec_alu op x s, h s 1 _⟩, fun n => ⟨_, exec_aluN8 op n s, h s 2 n⟩⟩

/-- Settles O40: both are `add8`, ADD without the carry. -/
theorem addAndAdcResults : Obligations.AddAndAdcResults :=
  ⟨ofBothForms_of_aluOnA fun s len v => aluOnA_leaves (op := .add) (add8_gives s.cpu.a v false) len,
    ofBothForms_of_aluOnA fun s len v => aluOnA_leaves (op := .adc) (add8_gives s.cpu.a v (flagC s)) len⟩

/-- Settles O41: all three are `sub8`, SUB and CP without the carry. -/
theorem subSbcAndCpResults : Obligations.SubSbcAndCpResults :=
  ⟨ofBothForms_of_aluOnA fun s len v => aluOnA_leaves (op := .sub) (sub8_gives_noCarry s.cpu.a v) len,
    ofBothForms_of_aluOnA fun s len v => aluOnA_leaves (op := .sbc) (sub8_gives s.cpu.a v (flagC s)) len,
    ofBothForms_of_aluOnA fun s len v => aluOnA_leaves (op := .cp) (sub8_gives_noCarry s.cpu.a v) len⟩

/-- Settles O42: the primitives are the bitwise operations with constant flags. -/
theorem logicalResults : Obligations.LogicalResults :=
  ⟨ofBothForms_of_aluOnA fun _ len _ => aluOnA_leaves (op := .and) ⟨rfl, rfl, rfl, rfl⟩ len,
    ofBothForms_of_aluOnA fun _ len _ => aluOnA_leaves (op := .xor) ⟨rfl, rfl, rfl, rfl⟩ len,
    ofBothForms_of_aluOnA fun _ len _ => aluOnA_leaves (op := .or) ⟨rfl, rfl, rfl, rfl⟩ len⟩

/-! ### INC and DEC -/

/-- INC reads Cy after the write, which keeps it; the flags as numbers of the value read (R174, R175). -/
theorem incLoc_eq (x : Loc) (s : State) :
    incLoc x s = setFlags (decide ((getLoc x s).toNat = 255)) false (decide ((getLoc x s).toNat % 16 = 15)) (flagC s)
      (putLoc x (getLoc x s + 1#8) (advance 1 s)) := by
  have hzero : getLoc x s + 1#8 = 0#8 ↔ (getLoc x s).toNat = 255 := by bv_omega
  simp only [incLoc, setIncFlags, incHalf, flagC, putLoc_f, advance_f, hzero]

/-- DEC reads Cy after the write, which keeps it; the flags as numbers of the value read (R176, R177). -/
theorem decLoc_eq (x : Loc) (s : State) :
    decLoc x s = setFlags (decide ((getLoc x s).toNat = 1)) true (decide ((getLoc x s).toNat % 16 = 0)) (flagC s)
      (putLoc x (getLoc x s - 1#8) (advance 1 s)) := by
  have hzero : getLoc x s - 1#8 = 0#8 ↔ (getLoc x s).toNat = 1 := by bv_omega
  simp only [decLoc, setDecFlags, decHalf, flagC, putLoc_f, advance_f, hzero]

/-- Settles O43: the register written is one up or one down. -/
theorem incDecRegister : Obligations.IncDecRegister := by
  intro r s
  have hinc : (getReg r s + 1#8).toNat = ((getReg r s).toNat + 1) % 256 := BitVec.toNat_add ..
  have hdec : (getReg r s - 1#8).toNat = ((getReg r s).toNat + 255) % 256 := by bv_omega
  rw [exec_inc, exec_dec, incLoc_eq, decLoc_eq]
  exact ⟨⟨_, rfl, setFlags_setReg_advance_spec hinc r 1 s ..⟩, ⟨_, rfl, setFlags_setReg_advance_spec hdec r 1 s ..⟩⟩

/-- Settles O44: the flags are of the byte read; the one store is at the old HL. -/
theorem incDecAtHl : Obligations.IncDecAtHl := fun s =>
  ⟨⟨_, congrArg Host.Outcome.next (incLoc_eq .indHl s), setFlags_writeByte_advance_spec 1 (regHL s) _ s ..⟩,
    ⟨_, congrArg Host.Outcome.next (decLoc_eq .indHl s), setFlags_writeByte_advance_spec 1 (regHL s) _ s ..⟩⟩

/-! ### DAA -/

/-- The two adjustments have no bit in common, so their union is their sum. -/
theorem toNat_daaAdjustment (high low : Bool) :
    (daaAdjustment high low).toNat = (if high then 0x60 else 0) + (if low then 0x06 else 0) := by
  revert high low
  decide

/-- The addition branch of R178 on numbers. -/
theorem toNat_daaResult_add (a : Byte) (h c : Bool) :
    (daaResult a false h c).toNat =
      (a.toNat + (if daaHigh a c then 0x60 else 0) + (if daaLow a h then 0x06 else 0)) % 256 := by
  rw [daaResult, if_neg Bool.false_ne_true, BitVec.toNat_add, toNat_daaAdjustment, Nat.add_assoc]

/-- The subtraction branch of R178 on numbers. -/
theorem toNat_daaResult_sub (a : Byte) (h c : Bool) :
    (daaResult a true h c).toNat = (a.toNat + 256 - (if c then 0x60 else 0) - (if h then 0x06 else 0)) % 256 := by
  rw [daaResult, if_pos rfl, BitVec.toNat_sub, toNat_daaAdjustment]
  cases c <;> cases h <;> simp <;> omega

/-- R178 on numbers, both branches at once. -/
theorem toNat_daaResult (a : Byte) (n h c : Bool) :
    (daaResult a n h c).toNat =
      (let high := c = true ∨ (n = false ∧ a.toNat > 0x99)
       let low := h = true ∨ (n = false ∧ a.toNat % 16 > 9)
       if n then (a.toNat + 256 - (if high then 0x60 else 0) - (if low then 0x06 else 0)) % 256
       else (a.toNat + (if high then 0x60 else 0) + (if low then 0x06 else 0)) % 256) := by
  cases n
  case false => simp [toNat_daaResult_add, daaHigh, daaLow]
  case true => simp [toNat_daaResult_sub]

theorem daaCarry_eq (a : Byte) (n c : Bool) :
    daaCarry a n c = decide (c = true ∨ (n = false ∧ a.toNat > 0x99)) := by
  cases n <;> simp [daaCarry, daaHigh]

/-- Settles O45: the branch by N, with the two tests on the old A. -/
theorem daaAdjusts : Obligations.DaaAdjusts := by
  intro s
  have hr := toNat_daaResult s.cpu.a (flagN s) (flagH s) (flagC s)
  refine ⟨_, rfl, ?_⟩
  rw [decimalAdjust, decide_eq_zero, hr, daaCarry_eq]
  obtain ⟨hvalue, hflags, hkeeps, hpc⟩ := setFlags_setReg_advance_spec hr .a 1 s ..
  exact ⟨⟨hvalue, hflags⟩, hkeeps, hpc⟩

theorem toNat_bcd {n : Nat} (hn : n < 100) : (bcd n).toNat = n / 10 * 16 + n % 10 := by
  rw [bcd, BitVec.toNat_ofNat]
  omega

theorem onesDigit_bcd {n : Nat} (hn : n < 100) : (bcd n).toNat % 16 = n % 10 := by
  rw [toNat_bcd hn]
  omega

theorem toNat_bcd_lt_iff {x y : Nat} (hx : x < 100) (hy : y < 100) : (bcd x).toNat < (bcd y).toNat ↔ x < y := by
  rw [toNat_bcd hx, toNat_bcd hy]
  omega

/-- Addition digit by digit: each place that carries 10 is 6 short of the binary carry at 16. -/
theorem toNat_bcd_add {x y z : Nat} (hx : x < 100) (hy : y < 100) (hz : z = (x + y) % 100) :
    (bcd x).toNat + (bcd y).toNat + (if x + y ≥ 100 then 0x60 else 0) + (if x % 10 + y % 10 ≥ 10 then 0x06 else 0) =
      (bcd z).toNat + (if x + y ≥ 100 then 0x100 else 0) := by
  have hones : x % 10 + y % 10 = z % 10 + (if x % 10 + y % 10 ≥ 10 then 10 else 0) := by
    split <;> omega
  rw [toNat_bcd hx, toNat_bcd hy, toNat_bcd (by omega)]
  split_ifs at hones ⊢ <;> omega

/-- Subtraction digit by digit: each place that borrows 10 is 6 short of the binary borrow of 16. -/
theorem toNat_bcd_sub {x y z : Nat} (hx : x < 100) (hy : y < 100) (hz : z = (x + 100 - y) % 100) :
    (bcd x).toNat + (if x < y then 0x100 else 0) =
      (bcd y).toNat + (bcd z).toNat + (if x < y then 0x60 else 0) + (if x % 10 < y % 10 then 0x06 else 0) := by
  have hones : x % 10 + (if x % 10 < y % 10 then 10 else 0) = y % 10 + z % 10 := by
    split <;> omega
  rw [toNat_bcd hx, toNat_bcd hy, toNat_bcd (by omega)]
  split_ifs at hones ⊢ <;> omega

/-- DAA after a sum of BCD bytes: 0x60 applies exactly when the sum is 100 or more, 0x06 exactly when that of the ones is 10 or more. -/
theorem daa_add8_bcd {x y : Nat} (hx : x < 100) (hy : y < 100) {p : AluResult} (hp : p = add8 (bcd x) (bcd y) false) :
    daaResult p.r p.n p.h p.c = bcd ((x + y) % 100) ∧ daaCarry p.r p.n p.c = decide (x + y ≥ 100) := by
  have hsum := toNat_bcd_add hx hy rfl
  have hdigits := toNat_bcd (n := (x + y) % 100) (by omega)
  obtain ⟨hr, hn, hh, hc⟩ := add8_gives (bcd x) (bcd y) false
  rw [← hp] at hr hn hh hc
  have hhigh : daaHigh p.r p.c = decide (x + y ≥ 100) := by
    rw [daaHigh, hc, hr, Bool.toNat_false, ← Bool.decide_or, decide_eq_decide]
    split_ifs at hsum <;> omega
  have hlow : daaLow p.r p.h = decide (x % 10 + y % 10 ≥ 10) := by
    have hxOnes := onesDigit_bcd hx
    have hyOnes := onesDigit_bcd hy
    rw [daaLow, hh, hr, Bool.toNat_false, ← Bool.decide_or, decide_eq_decide]
    omega
  rw [hn]
  refine ⟨BitVec.eq_of_toNat_eq ?_, hhigh⟩
  rw [toNat_daaResult_add, hhigh, hlow, hr, Bool.toNat_false]
  simp only [decide_eq_true_iff]
  split_ifs at hsum ⊢ <;> omega

/-- DAA after a difference of BCD bytes: 0x60 applies exactly when it is negative, 0x06 exactly when that of the ones is. -/
theorem daa_sub8_bcd {x y : Nat} (hx : x < 100) (hy : y < 100) {p : AluResult} (hp : p = sub8 (bcd x) (bcd y) false) :
    daaResult p.r p.n p.h p.c = bcd ((x + 100 - y) % 100) ∧ daaCarry p.r p.n p.c = decide (x < y) := by
  have hdiff := toNat_bcd_sub hx hy rfl
  obtain ⟨hr, hn, hh, hc⟩ := sub8_gives_noCarry (bcd x) (bcd y)
  simp only [← hp, onesDigit_bcd hx, onesDigit_bcd hy, toNat_bcd_lt_iff hx hy] at hr hn hh hc
  rw [hn, hh, hc]
  refine ⟨BitVec.eq_of_toNat_eq ?_, rfl⟩
  rw [toNat_daaResult_sub, hr]
  simp only [decide_eq_true_iff]
  split_ifs at hdiff ⊢ <;> omega

/-- DAA after an instruction that writes what its primitive gave to A adjusts that result by its flags. -/
theorem decimalAdjust_aluOnA {op : AluOp} (hop : op ≠ .cp) (len : Nat) (v : Byte) (s : State) {p : AluResult}
    (hp : p = aluPrimitive op s.cpu.a v (flagC s)) {u : State} (hu : u = decimalAdjust (aluOnA op len v s)) :
    getReg .a u = daaResult p.r p.n p.h p.c ∧ flagC u = daaCarry p.r p.n p.c ∧
      flagZ u = decide (getReg .a u = 0x00#8) := by
  subst hp hu
  have ha : (aluOnA op len v s).cpu.a = (aluPrimitive op s.cpu.a v (flagC s)).r := by
    cases op
    case cp => exact absurd rfl hop
    all_goals rfl
  simp only [decimalAdjust, getReg_setFlags, getReg_setReg_same, flagC_setFlags, flagZ_setFlags, ha]
  simp [aluOnA]

/-- Settles O46: DAA turns the primitive's sum and difference of two BCD bytes into the BCD ones. -/
theorem bcdRoundTrip : Obligations.BcdRoundTrip := by
  intro s x y hx hy ha
  obtain ⟨hsum, hsumCarry⟩ := daa_add8_bcd hx hy rfl
  obtain ⟨hdiff, hdiffCarry⟩ := daa_sub8_bcd hx hy rfl
  obtain ⟨haAdd, hcAdd, hzAdd⟩ := decimalAdjust_aluOnA (op := .add) (by decide) 2 (bcd y) s rfl rfl
  obtain ⟨haSub, hcSub, hzSub⟩ := decimalAdjust_aluOnA (op := .sub) (by decide) 2 (bcd y) s rfl rfl
  rw [ha] at haAdd hcAdd haSub hcSub
  exact ⟨⟨_, _, rfl, rfl, haAdd.trans hsum, hcAdd.trans hsumCarry, hzAdd⟩,
    ⟨_, _, rfl, rfl, haSub.trans hdiff, hcSub.trans hdiffCarry, hzSub⟩⟩

/-! ### CPL, SCF, CCF and the rotates of A -/

/-- Settles O47: CPL writes A, SCF and CCF write the flags alone. -/
theorem complementAndCarryForms : Obligations.ComplementAndCarryForms := fun s =>
  ⟨⟨_, rfl, setFlags_setReg_advance_spec BitVec.toNat_not .a 1 s ..⟩, ⟨_, rfl, setFlags_advance_spec [] 1 s ..⟩,
    ⟨_, rfl, setFlags_advance_spec [] 1 s ..⟩⟩

/-- A shift to the left frees bit 0, which a carry then fills. -/
theorem toNat_shiftLeft_or_carryLow (v : Byte) (c : Bool) :
    (v <<< 1 ||| carryLow c).toNat = 2 * v.toNat % 256 + c.toNat := by
  have hfree : v <<< 1 &&& carryLow c = 0#8 := by
    revert v c
    decide +kernel
  have hcarry : (carryLow c).toNat = c.toNat := by cases c <;> rfl
  have := c.toNat_le
  rw [← BitVec.add_eq_or_of_and_eq_zero _ _ hfree, BitVec.toNat_add, BitVec.toNat_shiftLeft, hcarry]
  omega

/-- A shift to the right frees bit 7, which a carry then fills. -/
theorem toNat_shiftRight_or_carryHigh (v : Byte) (c : Bool) :
    (v >>> 1 ||| carryHigh c).toNat = v.toNat / 2 + 128 * c.toNat := by
  have hfree : v >>> 1 &&& carryHigh c = 0#8 := by
    revert v c
    decide +kernel
  have hcarry : (carryHigh c).toNat = 128 * c.toNat := by cases c <;> rfl
  have := c.toNat_le
  rw [← BitVec.add_eq_or_of_and_eq_zero _ _ hfree, BitVec.toNat_add, BitVec.toNat_ushiftRight, hcarry]
  omega

/-- Bit 7 leaves to the left. -/
theorem bit7_eq_decide (v : Byte) : v.getLsbD 7 = decide (v.toNat ≥ 128) := BitVec.msb_eq_decide v

/-- Bit 0 leaves to the right. -/
theorem bit0_eq_decide (v : Byte) : v.getLsbD 0 = decide (v.toNat % 2 = 1) := Nat.testBit_zero v.toNat

/-- The rotates on numbers (R182 to R185, R251 to R254). -/
theorem shiftByte_rotates (v : Byte) (cy : Bool) :
    (shiftByte .rlc v cy).r.toNat = 2 * v.toNat % 256 + v.toNat / 128 ∧
    (shiftByte .rrc v cy).r.toNat = v.toNat / 2 + 128 * (v.toNat % 2) ∧
    (shiftByte .rl v cy).r.toNat = 2 * v.toNat % 256 + cy.toNat ∧
    (shiftByte .rr v cy).r.toNat = v.toNat / 2 + 128 * cy.toNat := by
  refine ⟨?_, ?_, toNat_shiftLeft_or_carryLow v cy, toNat_shiftRight_or_carryHigh v cy⟩
  · have h7 : (v.getLsbD 7).toNat = v.toNat / 128 := by
      have := v.isLt
      rw [bit7_eq_decide, Bool.toNat, Bool.cond_decide]
      split <;> omega
    rw [← h7]
    exact toNat_shiftLeft_or_carryLow v _
  · have h0 : (v.getLsbD 0).toNat = v.toNat % 2 := by
      rw [bit0_eq_decide]
      rcases Nat.mod_two_eq_zero_or_one v.toNat with h | h <;> simp [h]
    rw [← h0]
    exact toNat_shiftRight_or_carryHigh v _

/-- Settles O48: each is a rotate of A by one, with the flags Z, N and Hf cleared. -/
theorem accumulatorRotates : Obligations.AccumulatorRotates := by
  intro s
  obtain ⟨hrlc, hrrc, hrl, hrr⟩ := shiftByte_rotates s.cpu.a (flagC s)
  dsimp only
  rw [← bit7_eq_decide, ← bit0_eq_decide]
  exact ⟨⟨_, rfl, setFlags_setReg_advance_spec hrlc .a 1 s ..⟩, ⟨_, rfl, setFlags_setReg_advance_spec hrrc .a 1 s ..⟩,
    ⟨_, rfl, setFlags_setReg_advance_spec hrl .a 1 s ..⟩, ⟨_, rfl, setFlags_setReg_advance_spec hrr .a 1 s ..⟩⟩

end Sys2Proof.Machine
end

section
/-! PROOF. 16-bit arithmetic (42_alu16 R200 to R206): INC rr and DEC rr write one pair and no flag; the others write one pair and the flags, whose
frame is said once. -/

namespace Sys2Proof.Machine

@[simp] theorem getPair_setFlags (rr : Reg16) (z n h c : Bool) (s : State) :
    getPair rr (setFlags z n h c s) = getPair rr s := by
  cases rr <;> rfl

/-- The frame of an instruction of `len` bytes that writes the flags and one pair. -/
theorem setFlags_setPair_advance_spec (rr : Reg16) (v : Word) (len : Nat) (s : State) (z n h c : Bool) {t : State}
    (ht : t = setFlags z n h c (setPair rr v (advance len s))) :
    getPair rr t = v ∧ FlagsBecome s t z n h c ∧ KeepsRegs (halvesOf rr) s t ∧ (rr ≠ .sp → KeepsSp s t) ∧
      KeepsControl s t ∧ KeepsMemory s t ∧ t.cpu.pc = s.cpu.pc + BitVec.ofNat 16 len := by
  obtain ⟨hvalue, hregs, hsp, hcontrol, ⟨hmmu, hparams, -⟩, hflags, hpc⟩ := setPair_advance_spec rr v len s
  subst ht
  refine ⟨?_, flagsBecome_setFlags hflags .., fun q hq => ?_, hsp, hcontrol, .of_mmu hmmu hparams, hpc⟩
  · rw [getPair_setFlags, hvalue]
  · rw [getReg_setFlags, hregs q hq]

/-- The pair HL: only H, L, F and PC change. -/
theorem setFlags_setHL_advance_spec (v : Word) (len : Nat) (s : State) (z n h c : Bool) {t : State}
    (ht : t = setFlags z n h c (setHL v (advance len s))) :
    regHL t = v ∧ FlagsBecome s t z n h c ∧ KeepsAllBut [.h, .l] s t ∧ t.cpu.pc = s.cpu.pc + BitVec.ofNat 16 len := by
  obtain ⟨hvalue, hflags, hregs, hsp, hcontrol, hmemory, hpc⟩ := setFlags_setPair_advance_spec .hl v len s z n h c ht
  exact ⟨hvalue, hflags, ⟨hregs, hsp (by decide), hcontrol, hmemory⟩, hpc⟩

/-- The sum of R200 as a number. -/
theorem toNat_add16 (x v : Word) : (add16 x v).r.toNat = (x.toNat + v.toNat) % 65536 := BitVec.toNat_ofNat ..

/-- Settles O49: HL gets the sum of `add16`, and the flags its carries. -/
theorem addHlResult : Obligations.AddHlResult := by
  intro rr s
  obtain ⟨hvalue, hflags, hkeeps, hpc⟩ := setFlags_setHL_advance_spec (add16 (regHL s) (getPair rr s)).r 1 s (flagZ s)
    false (add16 (regHL s) (getPair rr s)).h (add16 (regHL s) (getPair rr s)).c rfl
  exact ⟨_, exec_addHlPair rr s, by rw [addToHL, hvalue, toNat_add16], hflags, hkeeps, hpc⟩

/-- Settles O50: the pair alone is written, stepped by 1 or by 0xFFFF, which is -1. -/
theorem incDecPair : Obligations.IncDecPair := by
  intro rr s
  rw [← add_allOnes]
  exact ⟨⟨_, exec_incPair rr s, setPair_advance_spec rr _ 1 s⟩, ⟨_, exec_decPair rr s, setPair_advance_spec rr _ 1 s⟩⟩

/-- The byte read as a signed number (R204). -/
theorem signExtend16_eq_ofInt (e : Byte) : signExtend16 e = BitVec.ofInt 16 e.toInt := rfl

/-- Settles O51: SP or HL gets the sum of `spAdd`, and the flags its carries. -/
theorem spRelativeResults : Obligations.SpRelativeResults := by
  intro e s
  dsimp only
  rw [← signExtend16_eq_ofInt]
  obtain ⟨hsum, hflags, hregs, -, hcontrol, hmemory, hpc⟩ := setFlags_setPair_advance_spec .sp (spAdd s.cpu.sp e).r 2 s
    false false (spAdd s.cpu.sp e).h (spAdd s.cpu.sp e).c rfl
  exact ⟨⟨_, rfl, hsum, hflags, hregs, hcontrol, hmemory, hpc⟩,
    ⟨_, rfl, setFlags_setHL_advance_spec (spAdd s.cpu.sp e).r 2 s false false _ _ rfl⟩⟩

end Sys2Proof.Machine
end

section
/-! PROOF. The jumps (43_control R221 to R225): what a taken and an untaken jump leave, from which PC alone is seen to change. -/

namespace Sys2Proof.Machine

/-- An absolute jump writes PC alone: the target, or the address past its three bytes (R221, R222). -/
theorem jumpAbs_eq_withPc (taken : Bool) (a : Word) (s : State) :
    jumpAbs taken a s = { s with cpu := { s.cpu with pc := if taken then a else s.cpu.pc + 3#16 } } := by
  cases taken <;> rfl

/-- A relative jump writes PC alone: the address past its two bytes, plus the offset when taken (R224, R225). -/
theorem jumpRel_eq_withPc (taken : Bool) (e : Byte) (s : State) :
    jumpRel taken e s = { s with cpu := { s.cpu with
      pc := s.cpu.pc + 2#16 + (if taken then BitVec.ofInt 16 e.toInt else 0#16) } } := by
  cases taken with
  | true => rfl
  | false =>
    rw [if_neg Bool.false_ne_true, BitVec.add_zero]
    rfl

/-- Settles O52: a jump that is always taken is its own equation; a conditional one goes by its condition, and costs by its row of the table. -/
theorem jumpTargets : Obligations.JumpTargets := by
  intro cc a e s
  refine ⟨rfl, rfl, rfl, ?_, ?_, fun ht => ⟨?_, ?_⟩⟩
  · rw [exec_jpCond, condHolds_eq_condTrue, jumpAbs_eq_withPc]
  · rw [exec_jrCond, condHolds_eq_condTrue, jumpRel_eq_withPc]
  · exact instrCost_of_condCost ht (standardCycles_jpCond cc a)
  · exact instrCost_of_condCost ht (standardCycles_jrCond cc e)

end Sys2Proof.Machine
end

section
/-! PROOF. The prefixed operations (44_prefixed R251 to R261): what each makes of a byte, on numbers and by its bits. The frames of an instruction
that writes one register, one byte or the flags are those of the loads and of the 8-bit ALU. -/

namespace Sys2Proof.Machine

/-! ### Rotates, shifts and SWAP -/

/-- Bit 7 alone, which SRA keeps (R256). -/
theorem and_bit7_eq_carryHigh (v : Byte) : v &&& 0x80#8 = carryHigh (v.getLsbD 7) := BitVec.and_twoPow v 7

/-- The nibbles change places (R257). -/
theorem toNat_swapNibbles (v : Byte) : (v <<< 4 ||| v >>> 4).toNat = v.toNat % 16 * 16 + v.toNat / 16 := by
  have hdisjoint : v <<< 4 &&& v >>> 4 = 0#8 := by
    revert v
    decide +kernel
  rw [← BitVec.add_eq_or_of_and_eq_zero _ _ hdisjoint, BitVec.toNat_add, BitVec.toNat_shiftLeft, BitVec.toNat_ushiftRight]
  omega

/-- The result and the carry of every rotate, shift and swap as numbers (R251 to R258). -/
theorem shiftByte_eq_shiftNumber (op : ShiftOp) (v : Byte) (cy : Bool) :
    (shiftByte op v cy).r.toNat = (shiftNumber op v.toNat cy.toNat).1 ∧
      (shiftByte op v cy).c = (shiftNumber op v.toNat cy.toNat).2 := by
  obtain ⟨hrlc, hrrc, hrl, hrr⟩ := shiftByte_rotates v cy
  cases op with
  | rlc => exact ⟨hrlc, bit7_eq_decide v⟩
  | rrc => exact ⟨hrrc, bit0_eq_decide v⟩
  | rl => exact ⟨hrl, bit7_eq_decide v⟩
  | rr => exact ⟨hrr, bit0_eq_decide v⟩
  | sla =>
    refine ⟨?_, bit7_eq_decide v⟩
    rw [shiftByte, BitVec.toNat_shiftLeft, Nat.shiftLeft_eq, Nat.mul_comm, shiftNumber]
  | sra =>
    refine ⟨?_, bit0_eq_decide v⟩
    have h7 : (v.getLsbD 7).toNat = v.toNat / 128 % 2 := Nat.toNat_testBit v.toNat 7
    have := v.isLt
    rw [shiftByte, and_bit7_eq_carryHigh, toNat_shiftRight_or_carryHigh, h7, shiftNumber]
    omega
  | swap => exact ⟨toNat_swapNibbles v, rfl⟩
  | srl => exact ⟨BitVec.toNat_ushiftRight v 1, bit0_eq_decide v⟩

/-- The flags of a shift as numbers of the byte read (R251 to R258). -/
theorem shiftLoc_eq (op : ShiftOp) (x : Loc) (s : State) :
    shiftLoc op x s =
      setFlags (decide ((shiftNumber op (getLoc x s).toNat (flagC s).toNat).1 = 0)) false false
        (shiftNumber op (getLoc x s).toNat (flagC s).toNat).2
        (putLoc x (shiftByte op (getLoc x s) (flagC s)).r (advance 2 s)) := by
  obtain ⟨hresult, hcarry⟩ := shiftByte_eq_shiftNumber op (getLoc x s) (flagC s)
  rw [shiftLoc, decide_eq_zero, hresult, hcarry]

/-- Settles O55: the register or the byte at HL gets the result of `shiftByte`, whose number is the statement's. -/
theorem cbShiftResults : Obligations.CbShiftResults := by
  intro op s
  refine ⟨fun r => ?_, ?_⟩
  · obtain ⟨hresult, -⟩ := shiftByte_eq_shiftNumber op (getReg r s) (flagC s)
    obtain ⟨hvalue, hflags, hkeeps, hpc⟩ := setFlags_setReg_advance_spec hresult r 2 s ..
    rw [exec_shift, shiftLoc_eq]
    exact ⟨_, rfl, ⟨hvalue, hflags⟩, hkeeps, hpc⟩
  · obtain ⟨hresult, -⟩ := shiftByte_eq_shiftNumber op (readByte s (regHL s)) (flagC s)
    obtain ⟨hstores, hflags, hframe⟩ := setFlags_writeByte_advance_spec 2 (regHL s)
      (shiftByte op (readByte s (regHL s)) (flagC s)).r s ..
    rw [exec_shift, shiftLoc_eq]
    dsimp only
    refine ⟨_, rfl, ⟨?_, hflags⟩, hframe⟩
    rw [← hresult, BitVec.ofNat_toNat, BitVec.setWidth_eq]
    exact hstores

/-! ### BIT, RES and SET -/

/-- The complement of a bit, as a number (R259). -/
theorem not_getLsbD_eq_decide (v : Byte) (i : Nat) : (!v.getLsbD i) = decide (v.toNat / 2 ^ i % 2 = 0) := by
  rw [BitVec.getLsbD, Nat.testBit_eq_decide_div_mod_eq, ← decide_not, decide_eq_decide, Nat.mod_two_not_eq_one]

/-- Settles O56: the flags alone are written, with Z the complement of the bit. -/
theorem bitTestsOnly : Obligations.BitTestsOnly := by
  intro b x s
  rw [← not_getLsbD_eq_decide]
  exact ⟨_, exec_bit b x s, setFlags_advance_spec [] 2 s ..⟩

/-- The mask of RES and SET has the one bit. -/
theorem getLsbD_bitMask (b : Fin 8) (k : Nat) : (0x01#8 <<< b.val).getLsbD k = decide (k = b.val) := by
  rw [← BitVec.twoPow_eq, BitVec.getLsbD_twoPow, decide_eq_true b.isLt, Bool.true_and, decide_eq_decide, eq_comm]

/-- RES makes the one bit 0 (R260). -/
theorem isWithBit_clear (v : Byte) (b : Fin 8) : IsWithBit v (v &&& ~~~(0x01#8 <<< b.val)) b false := by
  intro k hk
  rw [BitVec.getLsbD_and, BitVec.getLsbD_not, getLsbD_bitMask]
  by_cases hkb : k = b.val <;> simp [hkb, hk]

/-- SET makes the one bit 1 (R261). -/
theorem isWithBit_raise (v : Byte) (b : Fin 8) : IsWithBit v (v ||| 0x01#8 <<< b.val) b true := by
  intro k _
  rw [BitVec.getLsbD_or, getLsbD_bitMask]
  by_cases hkb : k = b.val <;> simp [hkb]

/-- The frame of RES and SET on a register. -/
theorem setReg_advance_isWithBit {r : Reg8} {v : Byte} {s : State} {b : Fin 8} {bit : Bool}
    (hv : IsWithBit (getReg r s) v b bit) (n : Nat) :
    IsWithBit (getReg r s) (getReg r (setReg r v (advance n s))) b bit ∧
      KeepsAllBut [r] s (setReg r v (advance n s)) ∧ KeepsFlags s (setReg r v (advance n s)) ∧
      (setReg r v (advance n s)).cpu.pc = s.cpu.pc + BitVec.ofNat 16 n := by
  obtain ⟨hvalue, hframe⟩ := setReg_advance_spec r v n s
  exact ⟨hvalue.symm ▸ hv, hframe⟩

/-- Settles O57: the operand is written with the one bit cleared or set, and no flag is. -/
theorem resAndSetWriteOneBit : Obligations.ResAndSetWriteOneBit := fun b s =>
  ⟨fun r => ⟨⟨_, exec_res b (.reg r) s, setReg_advance_isWithBit (isWithBit_clear (getReg r s) b) 2⟩,
      ⟨_, exec_set b (.reg r) s, setReg_advance_isWithBit (isWithBit_raise (getReg r s) b) 2⟩⟩,
    ⟨_, _, exec_res b .indHl s, isWithBit_clear _ b, writeByte_advance_spec 2 (regHL s) _ s⟩,
    ⟨_, _, exec_set b .indHl s, isWithBit_raise _ b, writeByte_advance_spec 2 (regHL s) _ s⟩⟩

end Sys2Proof.Machine
end

section
/-! PROOF. Miscellaneous and CPU control (45_misc R270 to R275): the instructions that only advance PC, and STOP by its mode; the
costs are those of the standard table's rows, and the refusal after HALT is that of every step while HALTED. -/

namespace Sys2Proof.Machine

/-- The eleven unrecognized opcodes have one meaning (R275). -/
theorem exec_unrecognized (k : Fin 11) (s : State) : exec (Instr.unrecognized k) s = .next (advance 1 s) := by
  fin_cases k <;> rfl

theorem stopCore_nop1 {s : State} (hmode : s.params.stopMode = .nop1) : stopCore s = advance 1 s := by
  rw [stopCore, hmode]

theorem stopCore_nop2 {s : State} (hmode : s.params.stopMode = .nop2) : stopCore s = advance 2 s := by
  rw [stopCore, hmode]

theorem stopCore_halt {s : State} (hmode : s.params.stopMode = .halt) : stopCore s = enterHalt (advance 2 s) := by
  rw [stopCore, hmode]

/-- Settles O58: each of the twelve is `advance 1`, which writes PC alone, and its row of the standard table has the cost 1. -/
theorem nopAndUnrecognizedOnlyAdvance : Obligations.NopAndUnrecognizedOnlyAdvance := fun k s =>
  ⟨rfl, exec_unrecognized k s, fun ht =>
    ⟨instrCost_of_fixedCost ht rfl, instrCost_of_fixedCost ht (standardCycles_unrecognized k)⟩⟩

/-- Settles O59: HALT, DI and EI are their own equations, STOP is `stopCore` in each mode, and each row of the standard table has the cost 1. -/
theorem cpuControlEffects : Obligations.CpuControlEffects := by
  intro ignored s
  refine ⟨rfl, (stepRefusedExactlyWhileHalted _).1 rfl, rfl, rfl, fun hmode => ?nop1, fun hmode => ?nop2, fun hmode => ?halt,
    fun ht => ?cost⟩
  case nop1 => exact congrArg Host.Outcome.next (stopCore_nop1 hmode)
  case nop2 => exact congrArg Host.Outcome.next (stopCore_nop2 hmode)
  case halt => exact congrArg Host.Outcome.next (stopCore_halt hmode)
  case cost =>
    exact ⟨instrCost_of_fixedCost ht rfl, instrCost_of_fixedCost ht rfl, instrCost_of_fixedCost ht rfl,
      instrCost_of_fixedCost ht rfl⟩

end Sys2Proof.Machine
end

section
/-! PROOF. Exceptions (60_exceptions R300): every instruction, in every state, runs a shared operation on states to its end, so none
faults and none is refused. -/

namespace Sys2Proof.Machine

/-- Settles O11: the next state is the one that the instruction's shared operation makes (`exec_runs`). -/
theorem everyInstructionCompletes : Obligations.EveryInstructionCompletes := by
  intro i s
  obtain ⟨t, hexec, -⟩ := exec_runs i s
  exact ⟨t, hexec⟩

end Sys2Proof.Machine
end

section
/-! PROOF. Construction (70_reset R321 to R323; 20_memory R57): when it is refused, the registers of each fork, and the header byte's
mask as a number. -/

namespace Sys2Proof.Machine

theorem imagesAccepted_eq_false_iff (p : Params) :
    imagesAccepted p = false ↔ p.cart.len < 0x4000 ∨ ∃ b, p.boot = some b ∧ b.len ≠ 256 := by
  cases hboot : p.boot with
  | none => simp [imagesAccepted, hboot]
  | some b => simp [imagesAccepted, hboot, imp_iff_not_or]

/-- Construction is refused for the images that R321 does not accept, and for no other reason. -/
theorem construct_eq_none_iff (p : Params) (ram : RamInit) : construct p ram = none ↔ imagesAccepted p = false := by
  simp [construct]

theorem cpuAtConstruction_of_boot_eq_none {p : Params} (h : p.boot = none) : cpuAtConstruction p = Cpu.postBoot := by
  simp [cpuAtConstruction, h]

theorem cpuAtConstruction_of_boot_ne_none {p : Params} (h : p.boot ≠ none) : cpuAtConstruction p = Cpu.allZero :=
  if_pos (Option.isSome_iff_ne_none.mpr h)

/-- Both forks start RUNNING with interrupts disabled (10_state R37, R38). -/
theorem ime_halted_cpuAtConstruction (p : Params) :
    (cpuAtConstruction p).ime = false ∧ (cpuAtConstruction p).halted = false := by
  unfold cpuAtConstruction
  split <;> exact ⟨rfl, rfl⟩

/-- The registers of the construction without a boot image (10_state R37). -/
theorem registers_of_cpu_eq_postBoot {s : State} (h : s.cpu = Cpu.postBoot) :
    regAF s = 0x01B0#16 ∧ regBC s = 0x0013#16 ∧ regDE s = 0x00D8#16 ∧ regHL s = 0x014D#16 ∧
    s.cpu.sp = 0xFFFE#16 ∧ s.cpu.pc = 0x0100#16 := by
  simp [regAF, regBC, regDE, regHL, joinBytes, h, Cpu.postBoot]

/-- The registers of the construction with a boot image (10_state R38). -/
theorem registers_of_cpu_eq_allZero {s : State} (h : s.cpu = Cpu.allZero) :
    regAF s = 0x0000#16 ∧ regBC s = 0x0000#16 ∧ regDE s = 0x0000#16 ∧ regHL s = 0x0000#16 ∧
    s.cpu.sp = 0x0000#16 ∧ s.cpu.pc = 0x0000#16 := by
  simp [regAF, regBC, regDE, regHL, joinBytes, h, Cpu.allZero]

/-- The mask of a header code from 0 to 6 fits a byte, so the truncation to 8 bits drops nothing (20_memory R57). -/
theorem toNat_bankMaskOf (code : Byte) :
    (bankMaskOf code).toNat = if code.toNat ≤ 6 then 2 * 2 ^ code.toNat - 1 else 0xFF := by
  unfold bankMaskOf
  split
  · next hcode =>
    have hpow : 2 ^ code.toNat ≤ 2 ^ 6 := Nat.pow_le_pow_right (by decide) hcode
    rw [BitVec.toNat_ofNat, Nat.shiftLeft_eq, Nat.mod_eq_of_lt (by omega)]
  · rfl

/-- Settles O20: the refusal is `imagesAccepted` answering false; an accepted construction is the one state of `construct_eq_some_iff`,
whose registers are those of its fork and whose other parts are read off. -/
theorem constructionSetsTheSession : Obligations.ConstructionSetsTheSession := by
  refine fun p ram => ⟨(construct_eq_none_iff p ram).trans (imagesAccepted_eq_false_iff p), fun s h => ?_⟩
  obtain ⟨-, rfl⟩ := construct_eq_some_iff.mp h
  obtain ⟨hime, hhalted⟩ := ime_halted_cpuAtConstruction p
  exact
    ⟨fun hboot => registers_of_cpu_eq_postBoot (cpuAtConstruction_of_boot_eq_none hboot),
      fun hboot => registers_of_cpu_eq_allZero (cpuAtConstruction_of_boot_ne_none hboot),
      hime, hhalted, rfl, Option.isSome_iff_ne_none, rfl, rfl, rfl, rfl, rfl, rfl, toNat_bankMaskOf _⟩

end Sys2Proof.Machine
end
